-- ==== Sys2Proof/Word.lean ====
section
/-! DEFINITION. The two word types of the block: the input byte (00_scope.md R12) and the 16-bit
signed integer (00_scope.md R13), held as its two's complement bits. -/

namespace Sys2Proof

/-- A byte or character: 8 bits, unsigned, bit 7 the most significant (R12). -/
abbrev Byte := BitVec 8

/-- The bits of an `int16`: signed, two's complement, range -32768 to 32767 (R13). -/
abbrev Int16Bits := BitVec 16

end Sys2Proof
end

