-- ==== Sys2Proof/Config.lean ====
section
/-! DEFINITION. The parameters of the block (00_scope.md R10), fixed for this hardware, and the one
family of free values: the contents the spec calls unspecified after BLK.RESET (10_state.md R45). -/

namespace Sys2Proof.Config

/-- `CRC_POLY`: the generator polynomial of the checksum table (R10). -/
def crcPoly : Byte := 0x07

/-- `CRC_SEED`: the value FX starts a frame's checksum from (R10). -/
def crcSeed : Byte := 0x00

/-- `MAX_PAYLOAD`: the most payload content bytes a frame may have (R10). -/
def maxPayload : Nat := 58

/-- `PAYLOAD_CAP`: the elements of `PAYLOAD`, one more than `MAX_PAYLOAD` (R10). -/
def payloadCap : Nat := 59

/-- `TERMINATOR`: the byte stored after the payload content (R10). -/
def terminator : Byte := 0x00

/-- `MAX_VALUES`: the most bracketed values in a message (R10). -/
def maxValues : Nat := 12

/-- `MAX_ARGS`: the entries of the integer list `ARGS` (R10). -/
abbrev maxArgs : Nat := 12

/-- `MAX_STRING`: the most characters in the string, and the elements of `STR` (R10). -/
def maxString : Nat := 32

/-- DESIGN CHOICE (log 7), safe: the value `ARGS[k]` holds after the `n`-th BLK.RESET of a run.
10_state.md R45 leaves it unspecified, so nothing is known of it. -/
opaque freeArg : Nat → Nat → Int16Bits

end Sys2Proof.Config
end

