-- ==== Sys2Proof/Machine/Operands.lean ====
section
/-! DEFINITION. The operand forms of the block: the byte classes that select a row (00_scope.md R17,
30_encoding.md R88 and R89), the complement class of each state, and the values of digits. -/

namespace Sys2Proof.Machine

/-- `c` lies in the range `lo`-`hi`, both ends included, as unsigned bytes. -/
def inRange (lo hi c : Byte) : Bool := decide (lo.toNat ≤ c.toNat) && decide (c.toNat ≤ hi.toNat)

/-! ## Characters with a class of their own (R17) -/

/-- `HASH`, the start marker. -/
def hashMark : Byte := 0x23
/-- `COLON`, the metadata marker. -/
def colon : Byte := 0x3A
/-- `CR`. -/
def cr : Byte := 0x0D
/-- `LF`. -/
def lf : Byte := 0x0A
/-- `LX`, the dummy metadata letter. -/
def lx : Byte := 0x78
/-- `MINUS`. -/
def minus : Byte := 0x2D
/-- `QUOTE`. -/
def quote : Byte := 0x22
/-- `LBR`. -/
def lbr : Byte := 0x5B
/-- `RBR`. -/
def rbr : Byte := 0x5D
/-- `COMMA`. -/
def comma : Byte := 0x2C
/-- `NUL`. -/
def nul : Byte := 0x00

/-! ## Classes with several members (R17, R88) -/

/-- `DIGIT`: `30`-`39`. -/
def isDigit (c : Byte) : Bool := inRange 0x30 0x39 c

/-- `HEX`: `30`-`39`, `61`-`66`; lower case only (D5). -/
def isHex (c : Byte) : Bool := isDigit c || inRange 0x61 0x66 c

/-- `OPCH`: `30`-`39`, `3F`, `41`-`5A`, `61`-`7A`. -/
def isOpch (c : Byte) : Bool :=
  isDigit c || c == 0x3F || inRange 0x41 0x5A c || inRange 0x61 0x7A c

/-- `STRCH`: the nine ranges of R88. -/
def isStrch (c : Byte) : Bool :=
  inRange 0x20 0x21 c || inRange 0x25 0x3B c || c == 0x3D || c == 0x3F || inRange 0x41 0x5B c ||
    c == 0x5D || c == 0x5F || inRange 0x61 0x7B c || c == 0x7D

/-- `CR` or `LF`. -/
def isEol (c : Byte) : Bool := c == cr || c == lf

/-! ## The class "other" of each state (R89) -/

/-- Other in `AwaitStart`. -/
def isNotHash (c : Byte) : Bool := c != hashMark
/-- Other in `AwaitPayloadOrMetadata`: a payload byte, `any-char` of R80. -/
def isPayloadByte (c : Byte) : Bool := c != colon && !isEol c
/-- Other in `AwaitIdChar1`. -/
def isNotLxNorHex (c : Byte) : Bool := c != lx && !isHex c
/-- Other in `AwaitIdChar2`, `AwaitChecksum1` and `AwaitChecksum2`. -/
def isNotHex (c : Byte) : Bool := !isHex c
/-- Other in `AwaitDummy2`, `AwaitDummy3` and `AwaitDummy4`. -/
def isNotLx (c : Byte) : Bool := c != lx
/-- Other in `AwaitCR`. -/
def isNotCr (c : Byte) : Bool := c != cr
/-- Other in `AwaitLF`. -/
def isNotLf (c : Byte) : Bool := c != lf
/-- Other in `WaitOpcode`. -/
def isNotOpch (c : Byte) : Bool := !isOpch c
/-- Other in `WaitBracketOrEnd`. -/
def isNotLbrNorNul (c : Byte) : Bool := c != lbr && c != nul
/-- Other in `WaitValue`. -/
def startsNoValue (c : Byte) : Bool := c != minus && !isDigit c && c != quote
/-- Other in `WaitDigit`. -/
def isNotDigit (c : Byte) : Bool := !isDigit c
/-- Other in `WaitDigitsOrCommaOrBracket`. -/
def continuesNoNumber (c : Byte) : Bool := !isDigit c && c != comma && c != rbr
/-- Other in `WaitString`. -/
def isNoStringByte (c : Byte) : Bool := c != quote && !isStrch c
/-- Other in `WaitCommaOrBracket`. -/
def isNotCommaNorRbr (c : Byte) : Bool := c != comma && c != rbr
/-- Other in `WaitEnd`. -/
def isNotNul (c : Byte) : Bool := c != nul

/-! ## Digit values (R17) -/

/-- `hexval(c)`, 0 to 15 on `HEX`. -/
def hexVal (c : Byte) : Byte := if isDigit c then c - 0x30 else c - 0x61 + 10

/-- `decval(c)`, 0 to 9 on `DIGIT`. -/
def decVal (c : Byte) : Int := (c.toNat : Int) - 0x30

/-- The `HEX` character of a value 0 to 15: what a sender writes, lower case (R86, R199). -/
def hexDigit (v : Byte) : Byte := if v.toNat < 10 then v + 0x30 else v - 10 + 0x61

/-- The two digits of a value, high digit first (R86, R199). -/
def hex2 (v : Byte) : List Byte := [hexDigit (v >>> 4), hexDigit (v &&& 0x0F)]

end Sys2Proof.Machine
end

