-- ==== Sys2Proof/Syntax.lean ====
section
/-! DEFINITION. The operations of the block, one constructor of `Instr` for each row of the operation
map (30_encoding.md R93), and what the host presents to the block: its transactions and its reads
(30_encoding.md R96, 43_block_operations.md R186). -/

namespace Sys2Proof

/-- The 11 sequencing states of the Frame Extractor (10_state.md R21). -/
inductive FxState
  | awaitStart
  | awaitPayloadOrMetadata
  | awaitIdChar1
  | awaitIdChar2
  | awaitChecksum1
  | awaitChecksum2
  | awaitDummy2
  | awaitDummy3
  | awaitDummy4
  | awaitCR
  | awaitLF
deriving DecidableEq, Repr

/-- The 8 sequencing states of the Payload Decoder (10_state.md R31). -/
inductive PdState
  | waitOpcode
  | waitBracketOrEnd
  | waitValue
  | waitDigit
  | waitString
  | waitDigitsOrCommaOrBracket
  | waitCommaOrBracket
  | waitEnd
deriving DecidableEq, Repr

/-- The instance a Checksum operation works on: the one FX owns (`fx_crc`), or a second one for the
host's response encoder, which 40_checksum.md allows a model to have (log 11). -/
inductive Accumulator
  | fx
  | host
deriving DecidableEq, Repr

/-- One constructor per row of the operation map (R93). An FX or PD row whose byte class has more
than one member carries the input byte `c`; a row of a one-byte class carries nothing. -/
inductive Instr
  -- 41_frame_extractor.md
  | fxStartHash
  | fxStartSkip (c : Byte)
  | fxPayColon
  | fxPayEol (c : Byte)
  | fxPayAppend (c : Byte)
  | fxId1X
  | fxId1Hex (c : Byte)
  | fxId1Bad (c : Byte)
  | fxId2Hex (c : Byte)
  | fxId2Bad (c : Byte)
  | fxCk1Hex (c : Byte)
  | fxCk1Bad (c : Byte)
  | fxCk2Hex (c : Byte)
  | fxCk2Bad (c : Byte)
  | fxDum2X
  | fxDum2Bad (c : Byte)
  | fxDum3X
  | fxDum3Bad (c : Byte)
  | fxDum4X
  | fxDum4Bad (c : Byte)
  | fxCrCr
  | fxCrBad (c : Byte)
  | fxLfLf
  | fxLfBad (c : Byte)
  -- 42_payload_decoder.md
  | pdOpOpcode (c : Byte)
  | pdOpBad (c : Byte)
  | pdBeLbr
  | pdBeNul
  | pdBeBad (c : Byte)
  | pdValMinus
  | pdValDigit (c : Byte)
  | pdValQuote
  | pdValBad (c : Byte)
  | pdDigDigit (c : Byte)
  | pdDigBad (c : Byte)
  | pdDcbDigit (c : Byte)
  | pdDcbComma
  | pdDcbRbr
  | pdDcbBad (c : Byte)
  | pdStrQuote
  | pdStrChar (c : Byte)
  | pdStrBad (c : Byte)
  | pdCbComma
  | pdCbRbr
  | pdCbBad (c : Byte)
  | pdEndNul
  | pdEndBad (c : Byte)
  -- 40_checksum.md
  | crcStart (acc : Accumulator) (seed : Byte)
  | crcUpdate (acc : Accumulator) (b : Byte)
  | crcUpdaten (acc : Accumulator) (bytes : List Byte) (length : Nat)
  | crcFinalize (acc : Accumulator)
  | crcCompute (bytes : List Byte) (length : Nat)
  -- 43_block_operations.md
  | blkReset
  | blkDecode
deriving DecidableEq, Repr

/-- A call the host can make on the block (R96, R186). The Checksum calls name an accumulator; that
`fx_crc` is not the host's is the decoder's business. -/
inductive Transaction
  | fxStep (c : Byte)
  | pdStep (c : Byte)
  | crcStart (acc : Accumulator) (seed : Byte)
  | crcUpdate (acc : Accumulator) (b : Byte)
  | crcUpdaten (acc : Accumulator) (bytes : List Byte) (length : Nat)
  | crcFinalize (acc : Accumulator)
  | crcCompute (bytes : List Byte) (length : Nat)
  | blkReset
  | blkDecode
deriving DecidableEq, Repr

/-- The reads of outputs and status registers (R96): no rows of the operation map, no effect on the
block (20_memory.md R64). -/
inductive OutputRead
  | frameOutput
  | messageOutput
  | fxError
  | pdError
deriving DecidableEq, Repr

/-- What the host presents next: a call or a read. -/
inductive Request
  | call (t : Transaction)
  | read (r : OutputRead)
deriving DecidableEq, Repr

end Sys2Proof
end

