-- ==== Sys2Proof/WellFormed.lean ====
section
/-! DEFINITION. Which terms of `Instr` are operations of the map (30_encoding.md R93): the input byte
is in the row's class, a length is the length of its list, and a Checksum operation that a
transaction can select works on the host's accumulator. -/

namespace Sys2Proof

open Machine

/-- The checks on an operation's operands: byte class (30_encoding.md R89), length
(93_implementation_defined.md U11), accumulator (30_encoding.md R96). -/
def Instr.wellFormed : Instr → Bool
  | .fxStartHash => true
  | .fxStartSkip c => isNotHash c
  | .fxPayColon => true
  | .fxPayEol c => isEol c
  | .fxPayAppend c => isPayloadByte c
  | .fxId1X => true
  | .fxId1Hex c => isHex c
  | .fxId1Bad c => isNotLxNorHex c
  | .fxId2Hex c => isHex c
  | .fxId2Bad c => isNotHex c
  | .fxCk1Hex c => isHex c
  | .fxCk1Bad c => isNotHex c
  | .fxCk2Hex c => isHex c
  | .fxCk2Bad c => isNotHex c
  | .fxDum2X => true
  | .fxDum2Bad c => isNotLx c
  | .fxDum3X => true
  | .fxDum3Bad c => isNotLx c
  | .fxDum4X => true
  | .fxDum4Bad c => isNotLx c
  | .fxCrCr => true
  | .fxCrBad c => isNotCr c
  | .fxLfLf => true
  | .fxLfBad c => isNotLf c
  | .pdOpOpcode c => isOpch c
  | .pdOpBad c => isNotOpch c
  | .pdBeLbr => true
  | .pdBeNul => true
  | .pdBeBad c => isNotLbrNorNul c
  | .pdValMinus => true
  | .pdValDigit c => isDigit c
  | .pdValQuote => true
  | .pdValBad c => startsNoValue c
  | .pdDigDigit c => isDigit c
  | .pdDigBad c => isNotDigit c
  | .pdDcbDigit c => isDigit c
  | .pdDcbComma => true
  | .pdDcbRbr => true
  | .pdDcbBad c => continuesNoNumber c
  | .pdStrQuote => true
  | .pdStrChar c => isStrch c
  | .pdStrBad c => isNoStringByte c
  | .pdCbComma => true
  | .pdCbRbr => true
  | .pdCbBad c => isNotCommaNorRbr c
  | .pdEndNul => true
  | .pdEndBad c => isNotNul c
  | .crcStart acc _ => acc == .host
  | .crcUpdate acc _ => acc == .host
  | .crcUpdaten acc bytes length => acc == .host && length == bytes.length
  | .crcFinalize acc => acc == .host
  | .crcCompute bytes length => length == bytes.length
  | .blkReset => true
  | .blkDecode => true

/-- `i` is an operation a transaction can select. -/
abbrev Instr.WellFormed (i : Instr) : Prop := i.wellFormed = true

end Sys2Proof
end

