-- ==== Sys2Proof/Decode.lean ====
section
/-! DEFINITION. Which operation a transaction selects in which state (30_encoding.md R89, R93), the
encoder back to a state and a transaction, and the reading of the opcode table's bits. -/

namespace Sys2Proof

open Machine

/-- Why a transaction selects no operation. -/
inductive DecodeRefusal
  /-- A Checksum operation on `fx_crc`: only FX rules invoke those, never the host (R96). Safe. -/
  | fxCrcIsPrivate
  /-- A byte list given with a length that is not its own (93_implementation_defined.md U11). Safe. -/
  | lengthMismatch
deriving DecidableEq, Repr

/-- The FX row that a byte selects in a state of FX: total (41_frame_extractor.md R146). -/
def decodeFx (st : FxState) (c : Byte) : Instr :=
  match st with
  | .awaitStart => if c = hashMark then .fxStartHash else .fxStartSkip c
  | .awaitPayloadOrMetadata =>
      if c = colon then .fxPayColon else if isEol c then .fxPayEol c else .fxPayAppend c
  | .awaitIdChar1 => if c = lx then .fxId1X else if isHex c then .fxId1Hex c else .fxId1Bad c
  | .awaitIdChar2 => if isHex c then .fxId2Hex c else .fxId2Bad c
  | .awaitChecksum1 => if isHex c then .fxCk1Hex c else .fxCk1Bad c
  | .awaitChecksum2 => if isHex c then .fxCk2Hex c else .fxCk2Bad c
  | .awaitDummy2 => if c = lx then .fxDum2X else .fxDum2Bad c
  | .awaitDummy3 => if c = lx then .fxDum3X else .fxDum3Bad c
  | .awaitDummy4 => if c = lx then .fxDum4X else .fxDum4Bad c
  | .awaitCR => if c = cr then .fxCrCr else .fxCrBad c
  | .awaitLF => if c = lf then .fxLfLf else .fxLfBad c

/-- The PD row that a byte selects in a state of PD: total (42_payload_decoder.md R173). -/
def decodePd (st : PdState) (c : Byte) : Instr :=
  match st with
  | .waitOpcode => if isOpch c then .pdOpOpcode c else .pdOpBad c
  | .waitBracketOrEnd =>
      if c = lbr then .pdBeLbr else if c = nul then .pdBeNul else .pdBeBad c
  | .waitValue =>
      if c = minus then .pdValMinus
      else if isDigit c then .pdValDigit c
      else if c = quote then .pdValQuote
      else .pdValBad c
  | .waitDigit => if isDigit c then .pdDigDigit c else .pdDigBad c
  | .waitDigitsOrCommaOrBracket =>
      if isDigit c then .pdDcbDigit c
      else if c = comma then .pdDcbComma
      else if c = rbr then .pdDcbRbr
      else .pdDcbBad c
  | .waitString =>
      if c = quote then .pdStrQuote else if isStrch c then .pdStrChar c else .pdStrBad c
  | .waitCommaOrBracket =>
      if c = comma then .pdCbComma else if c = rbr then .pdCbRbr else .pdCbBad c
  | .waitEnd => if c = nul then .pdEndNul else .pdEndBad c

/-- A Checksum operation is the host's only on its own accumulator (R96). -/
def onHostAccumulator (acc : Accumulator) (i : Instr) : Except DecodeRefusal Instr :=
  match acc with
  | .fx => .error .fxCrcIsPrivate
  | .host => .ok i

/-- A byte list comes with its own length (U11). -/
def withOwnLength (bytes : List Byte) (length : Nat) (d : Except DecodeRefusal Instr) :
    Except DecodeRefusal Instr :=
  if length = bytes.length then d else .error .lengthMismatch

/-- The operation a transaction selects in given states of the two machines (R93, R96). -/
def decode (fx : FxState) (pd : PdState) : Transaction → Except DecodeRefusal Instr
  | .fxStep c => .ok (decodeFx fx c)
  | .pdStep c => .ok (decodePd pd c)
  | .crcStart acc seed => onHostAccumulator acc (.crcStart acc seed)
  | .crcUpdate acc b => onHostAccumulator acc (.crcUpdate acc b)
  | .crcUpdaten acc bytes length =>
      withOwnLength bytes length (onHostAccumulator acc (.crcUpdaten acc bytes length))
  | .crcFinalize acc => onHostAccumulator acc (.crcFinalize acc)
  | .crcCompute bytes length => withOwnLength bytes length (.ok (.crcCompute bytes length))
  | .blkReset => .ok .blkReset
  | .blkDecode => .ok .blkDecode

/-! ## The encoder -/

/-- The state half of an operation's encoding (00_scope.md R2): a state of FX, a state of PD, or
none for an operation that any state admits. -/
inductive Context
  | fx (st : FxState)
  | pd (st : PdState)
  | any
deriving DecidableEq, Repr

/-- The states of the two machines meet a context. -/
def Context.admits (k : Context) (fx : FxState) (pd : PdState) : Bool :=
  match k with
  | .fx st => st == fx
  | .pd st => st == pd
  | .any => true

/-- An operation's whole encoding: the state that selects it and the transaction that carries it. -/
structure Encoding where
  context : Context
  transaction : Transaction
deriving DecidableEq, Repr

/-- The encoding of an operation: its row's state and byte in the operation map (R93). -/
def encode : Instr → Encoding
  | .fxStartHash => ⟨.fx .awaitStart, .fxStep 0x23⟩
  | .fxStartSkip c => ⟨.fx .awaitStart, .fxStep c⟩
  | .fxPayColon => ⟨.fx .awaitPayloadOrMetadata, .fxStep 0x3A⟩
  | .fxPayEol c => ⟨.fx .awaitPayloadOrMetadata, .fxStep c⟩
  | .fxPayAppend c => ⟨.fx .awaitPayloadOrMetadata, .fxStep c⟩
  | .fxId1X => ⟨.fx .awaitIdChar1, .fxStep 0x78⟩
  | .fxId1Hex c => ⟨.fx .awaitIdChar1, .fxStep c⟩
  | .fxId1Bad c => ⟨.fx .awaitIdChar1, .fxStep c⟩
  | .fxId2Hex c => ⟨.fx .awaitIdChar2, .fxStep c⟩
  | .fxId2Bad c => ⟨.fx .awaitIdChar2, .fxStep c⟩
  | .fxCk1Hex c => ⟨.fx .awaitChecksum1, .fxStep c⟩
  | .fxCk1Bad c => ⟨.fx .awaitChecksum1, .fxStep c⟩
  | .fxCk2Hex c => ⟨.fx .awaitChecksum2, .fxStep c⟩
  | .fxCk2Bad c => ⟨.fx .awaitChecksum2, .fxStep c⟩
  | .fxDum2X => ⟨.fx .awaitDummy2, .fxStep 0x78⟩
  | .fxDum2Bad c => ⟨.fx .awaitDummy2, .fxStep c⟩
  | .fxDum3X => ⟨.fx .awaitDummy3, .fxStep 0x78⟩
  | .fxDum3Bad c => ⟨.fx .awaitDummy3, .fxStep c⟩
  | .fxDum4X => ⟨.fx .awaitDummy4, .fxStep 0x78⟩
  | .fxDum4Bad c => ⟨.fx .awaitDummy4, .fxStep c⟩
  | .fxCrCr => ⟨.fx .awaitCR, .fxStep 0x0D⟩
  | .fxCrBad c => ⟨.fx .awaitCR, .fxStep c⟩
  | .fxLfLf => ⟨.fx .awaitLF, .fxStep 0x0A⟩
  | .fxLfBad c => ⟨.fx .awaitLF, .fxStep c⟩
  | .pdOpOpcode c => ⟨.pd .waitOpcode, .pdStep c⟩
  | .pdOpBad c => ⟨.pd .waitOpcode, .pdStep c⟩
  | .pdBeLbr => ⟨.pd .waitBracketOrEnd, .pdStep 0x5B⟩
  | .pdBeNul => ⟨.pd .waitBracketOrEnd, .pdStep 0x00⟩
  | .pdBeBad c => ⟨.pd .waitBracketOrEnd, .pdStep c⟩
  | .pdValMinus => ⟨.pd .waitValue, .pdStep 0x2D⟩
  | .pdValDigit c => ⟨.pd .waitValue, .pdStep c⟩
  | .pdValQuote => ⟨.pd .waitValue, .pdStep 0x22⟩
  | .pdValBad c => ⟨.pd .waitValue, .pdStep c⟩
  | .pdDigDigit c => ⟨.pd .waitDigit, .pdStep c⟩
  | .pdDigBad c => ⟨.pd .waitDigit, .pdStep c⟩
  | .pdDcbDigit c => ⟨.pd .waitDigitsOrCommaOrBracket, .pdStep c⟩
  | .pdDcbComma => ⟨.pd .waitDigitsOrCommaOrBracket, .pdStep 0x2C⟩
  | .pdDcbRbr => ⟨.pd .waitDigitsOrCommaOrBracket, .pdStep 0x5D⟩
  | .pdDcbBad c => ⟨.pd .waitDigitsOrCommaOrBracket, .pdStep c⟩
  | .pdStrQuote => ⟨.pd .waitString, .pdStep 0x22⟩
  | .pdStrChar c => ⟨.pd .waitString, .pdStep c⟩
  | .pdStrBad c => ⟨.pd .waitString, .pdStep c⟩
  | .pdCbComma => ⟨.pd .waitCommaOrBracket, .pdStep 0x2C⟩
  | .pdCbRbr => ⟨.pd .waitCommaOrBracket, .pdStep 0x5D⟩
  | .pdCbBad c => ⟨.pd .waitCommaOrBracket, .pdStep c⟩
  | .pdEndNul => ⟨.pd .waitEnd, .pdStep 0x00⟩
  | .pdEndBad c => ⟨.pd .waitEnd, .pdStep c⟩
  | .crcStart acc seed => ⟨.any, .crcStart acc seed⟩
  | .crcUpdate acc b => ⟨.any, .crcUpdate acc b⟩
  | .crcUpdaten acc bytes length => ⟨.any, .crcUpdaten acc bytes length⟩
  | .crcFinalize acc => ⟨.any, .crcFinalize acc⟩
  | .crcCompute bytes length => ⟨.any, .crcCompute bytes length⟩
  | .blkReset => ⟨.any, .blkReset⟩
  | .blkDecode => ⟨.any, .blkDecode⟩

/-! ## The opcode table's bits -/

/-- DESIGN CHOICE (log 9): the state in which the opcode table's bits alone are read. A byte does not
name a row (00_scope.md R2), so this takes the first row of the table that fixes all 8 bits to this
byte; for a byte no row fixes, the first row whose class lists it; else `FX.START.SKIP`. -/
def tableContext (c : Byte) : Context :=
  if c = 0x23 then .fx .awaitStart
  else if c = 0x3A then .fx .awaitPayloadOrMetadata
  else if c = 0x78 then .fx .awaitIdChar1
  else if c = 0x0D then .fx .awaitCR
  else if c = 0x0A then .fx .awaitLF
  else if c = 0x5B ∨ c = 0x00 then .pd .waitBracketOrEnd
  else if c = 0x2D ∨ c = 0x22 then .pd .waitValue
  else if c = 0x2C ∨ c = 0x5D then .pd .waitDigitsOrCommaOrBracket
  else if isHex c then .fx .awaitIdChar1
  else if isOpch c then .pd .waitOpcode
  else if isStrch c then .pd .waitString
  else .fx .awaitStart

/-- The transaction that carries a byte to the machine a context names. -/
def Context.carry (k : Context) (c : Byte) : Transaction :=
  match k with
  | .fx _ => .fxStep c
  | .pd _ => .pdStep c
  | .any => .fxStep c

/-- The states a context puts the two machines in; the machine it does not name keeps its own. -/
def Context.enter (k : Context) (fx : FxState) (pd : PdState) : FxState × PdState :=
  match k with
  | .fx st => (st, pd)
  | .pd st => (fx, st)
  | .any => (fx, pd)

/-- The byte in the bits of an operation the table gives bits: its rows are one byte long. -/
def tableByte (nbits w : Nat) : Option Byte :=
  if nbits = 8 ∧ w < 256 then some (BitVec.ofNat 8 w) else none

/-- The operation the decoder reads from bits numbered as the opcode table numbers them. -/
def decodeTableWord (nbits w : Nat) : Option Instr :=
  match tableByte nbits w with
  | none => none
  | some c =>
      let k := tableContext c
      let st := k.enter .awaitStart .waitOpcode
      (decode st.1 st.2 (k.carry c)).toOption

end Sys2Proof
end

