-- ==== Sys2Proof/Machine/State.lean ====
section
/-! DEFINITION. The state of the block (10_state.md R20), the model's own bookkeeping beside it, the
reasons a step can stop, and the state after reset (10_state.md R45). -/

namespace Sys2Proof.Machine

/-- The twenty error names, in the order of 60_exceptions.md R220: the first seven are raised by FX,
the next seven by PD, the last six by the host only. -/
inductive ErrorName
  | frameTooLong
  | invalidId
  | invalidChecksumDigits
  | checksumMismatch
  | expectedFrameEnd
  | missingMetadata
  | invalidDummyMetadata
  | unexpectedChar
  | tooManyArguments
  | valueOutOfRange
  | stringTooLong
  | invalidStringChar
  | tooManyStrings
  | invalidOpcode
  | duplicateMessage
  | unknownOpcode
  | wrongArgumentCount
  | missingStringArgument
  | unexpectedStringArgument
  | handlerDidNotRespond
deriving DecidableEq, Repr

/-- The event a step returns (00_scope.md R15); `quiet` is the spec's event `None`. An error event
carries the name; its number is `ErrorName.code`. -/
inductive Event
  | quiet
  | frameComplete
  | messageComplete
  | error (e : ErrorName)
deriving DecidableEq, Repr

/-- The sign of the integer being accumulated (10_state.md R35). -/
inductive Sign
  | plus
  | minus
deriving DecidableEq, Repr

/-- What a transaction hands back to the host (43_block_operations.md R186). -/
inductive Response
  /-- No result: BLK.RESET, the Checksum operations that return nothing, and before any transaction. -/
  | done
  /-- The event of `fx_step`, `pd_step` or BLK.DECODE. -/
  | event (e : Event)
  /-- The byte of `crc_finalize` or `crc_compute`. -/
  | byte (b : Byte)
  /-- The frame output (10_state.md R29): payload with its terminator, `fx_len`, `fx_has_id`, `fx_id`, `fx_error`. -/
  | frame (payload : List Byte) (len : Nat) (hasId : Bool) (id : Byte) (error : Option ErrorName)
  /-- The message output (10_state.md R37): `pd_opcode`, integers, `pd_argc`, `pd_has_string`, string, `pd_strlen`, `pd_error`. -/
  | message (opcode : Byte) (args : List Int16Bits) (argc : Nat) (hasString : Bool)
      (str : List Byte) (strlen : Nat) (error : Option ErrorName)
  /-- A status register (10_state.md R42). -/
  | status (error : Option ErrorName)
deriving DecidableEq, Repr

/-- A byte space: its written elements as (index, byte) cells, indices strictly rising; an unlisted
index holds no value (log 8). -/
abbrev Memory := List Host.Cell

/-- The writable spaces of 20_memory.md R60. -/
inductive Space
  | payload
  | args
  | str
deriving DecidableEq, Repr

/-- The state of the block and the model's bookkeeping. -/
structure State where
  /-- `fx_state` (10_state.md R21). -/
  fxState : FxState
  /-- `fx_len` (10_state.md R22). -/
  fxLen : Nat
  /-- `PAYLOAD` (10_state.md R23). -/
  payload : Memory
  /-- `fx_has_id` (10_state.md R24). -/
  fxHasId : Bool
  /-- `fx_id` (10_state.md R25). -/
  fxId : Byte
  /-- `fx_claimed` (10_state.md R26). -/
  fxClaimed : Byte
  /-- `fx_crc` (10_state.md R27). -/
  fxCrc : Byte
  /-- `fx_error` (10_state.md R28). -/
  fxError : Option ErrorName
  /-- `pd_state` (10_state.md R31). -/
  pdState : PdState
  /-- `pd_opcode` (10_state.md R32). -/
  pdOpcode : Byte
  /-- `ARGS` (10_state.md R30). -/
  args : Vector Int16Bits Config.maxArgs
  /-- `pd_argc` (10_state.md R30). -/
  pdArgc : Nat
  /-- `STR` (10_state.md R33). -/
  str : Memory
  /-- `pd_strlen` (10_state.md R33). -/
  pdStrlen : Nat
  /-- `pd_has_string` (10_state.md R34). -/
  pdHasString : Bool
  /-- `pd_acc` (10_state.md R35). -/
  pdAcc : Int16Bits
  /-- `pd_sign` (10_state.md R35). -/
  pdSign : Sign
  /-- `pd_error` (10_state.md R36). -/
  pdError : Option ErrorName
  /-- The model's own: the frame window of 20_memory.md R66 is open (log 4). -/
  frameOpen : Bool
  /-- The model's own: the message window of 20_memory.md R67 is open (log 4). -/
  msgOpen : Bool
  /-- The model's own: the host's accumulator, 40_checksum.md's second instance (log 11). -/
  hostCrc : Byte
  /-- The model's own: what the last transaction returned (log 3). -/
  response : Response
  /-- The model's own: the requests the host has yet to make, oldest first (log 1). -/
  pending : List Request
  /-- The model's own: how many BLK.RESETs have drawn free values (log 7). -/
  freeCount : Nat
deriving DecidableEq, Repr

/-- Why the machine stops with a fault. No run from reset reaches one (60_exceptions.md R230). -/
inductive Fault
  /-- An access to an element a space does not have (20_memory.md R63): raised by the operations that
  store to or read from a space, in states no run reaches. Safe. -/
  | noSuchElement (space : Space) (index : Nat)
  /-- A read of an element nothing has written (10_state.md R45): raised by BLK.DECODE and by the
  reads of the outputs, in states no run reaches. Safe. -/
  | unwrittenElement (space : Space) (index : Nat)
deriving DecidableEq, Repr

/-- Why the machine refuses. -/
inductive Refusal
  /-- An operation whose meaning is not written: raised by no arm of `exec` today. Safe. -/
  | notModelled (mnemonic : String)
  /-- A transition presented in a state or with a byte that selects another one: raised by every
  FX and PD meaning, never by `step`, whose decoder selects by state and byte (log 10). Safe. -/
  | notSelected
  /-- BLK.DECODE or a read of the frame output while the frame window is closed
  (93_implementation_defined.md U3): raised by BLK.DECODE and by the read. Safe. -/
  | outsideFrameWindow
  /-- A read of the message output while the message window is closed (U3): raised by the read. Safe. -/
  | outsideMessageWindow
  /-- A byte list with a length that is not its own (U11): raised by CRC.UPDATEN and CRC.COMPUTE. Safe. -/
  | lengthMismatch
  /-- A transaction that selects no operation: raised by `step`, with the decoder's reason. Safe. -/
  | undecodable (why : DecodeRefusal)
deriving DecidableEq, Repr

/-- The outcome of a step or of a meaning. -/
abbrev Out := Host.Outcome State Fault Refusal

/-- The block right after reset (10_state.md R45) with nothing presented to it. The values of `args`,
`hostCrc`, `response`, `pending` and `freeCount` are the model's: DESIGN CHOICE, logs 6, 11, 3, 1, 7. -/
def State.reset : State where
  fxState := .awaitStart
  fxLen := 0
  payload := []
  fxHasId := false
  fxId := 0
  fxClaimed := 0
  fxCrc := 0
  fxError := none
  pdState := .waitOpcode
  pdOpcode := 0
  args := Vector.replicate Config.maxArgs 0
  pdArgc := 0
  str := []
  pdStrlen := 0
  pdHasString := false
  pdAcc := 0
  pdSign := .plus
  pdError := none
  frameOpen := false
  msgOpen := false
  hostCrc := 0
  response := .done
  pending := []
  freeCount := 0

end Sys2Proof.Machine
end

