-- ==== Sys2Proof/Machine/Flags.lean ====
section
/-! DEFINITION. The conditions the block computes. It has no arithmetic condition codes
(10_state.md R41); what its rules test is the number of values, the range of an exact integer and the
equality of two checksums, and what they set are `fx_has_id`, `pd_has_string` and `pd_sign`. -/

namespace Sys2Proof.Machine

/-- The factor a sign stands for: +1 or -1 (10_state.md R35). -/
def Sign.toInt : Sign → Int
  | .plus => 1
  | .minus => -1

/-- `nvalues`: the integers stored and the string, if there is one (42_payload_decoder.md R175). -/
def State.nvalues (s : State) : Nat := s.pdArgc + (if s.pdHasString then 1 else 0)

/-- The message has all the values it may have: the test `nvalues = 12` (42_payload_decoder.md R155). -/
def State.valuesFull (s : State) : Bool := s.nvalues == Config.maxValues

/-- The exact value after one more digit: `10*pd_acc + pd_sign*d`, over the integers
(42_payload_decoder.md R161). -/
def State.nextValue (s : State) (d : Int) : Int := 10 * s.pdAcc.toInt + s.pdSign.toInt * d

/-- `v` is in the range of `int16` (00_scope.md R13). -/
def inInt16 (v : Int) : Bool := decide (-32768 ≤ v) && decide (v ≤ 32767)

/-- The register bits of an integer: its two's complement, which is `v` itself when `v` is in range. -/
def toInt16 (v : Int) : Int16Bits := BitVec.ofInt 16 v

end Sys2Proof.Machine
end

