-- ==== Sys2Proof/Machine/Ops.lean ====
section
/-! DEFINITION. The shared operations: the spaces, the checksum, the two machines' moves, raising an
error (60_exceptions.md R224, R225), and the selection of a transition by state and byte. There is no
return from an error: the machine that raised is already in its initial state (60_exceptions.md R228). -/

namespace Sys2Proof.Machine

/-! ## Byte spaces (20_memory.md R60) -/

/-- The byte at an index, or nothing where none was written. -/
def Memory.read : Memory → Nat → Option Byte
  | [], _ => none
  | (i, b) :: m, a => if i = a then some b else Memory.read m a

/-- Store a byte at an index, keeping the indices strictly rising. -/
def Memory.write : Memory → Nat → Byte → Memory
  | [], a, v => [(a, v)]
  | (i, b) :: m, a, v =>
      if a < i then (a, v) :: (i, b) :: m
      else if a = i then (a, v) :: m
      else (i, b) :: Memory.write m a v

/-- Every index is above `lo`, and they rise strictly. -/
def Memory.risesFrom : Nat → Memory → Bool
  | _, [] => true
  | lo, (i, _) :: m => decide (lo ≤ i) && Memory.risesFrom (i + 1) m

/-- The canonical form of a byte space of `cap` elements: indices strictly rising and below `cap`. -/
def Memory.wf (cap : Nat) (m : Memory) : Bool :=
  Memory.risesFrom 0 m && m.all (fun cell => decide (cell.1 < cap))

/-- The bytes at indices `lo` to `lo+n-1`, or the first index among them that nothing has written. -/
def Memory.readSpan (m : Memory) (lo : Nat) : Nat → Except Nat (List Byte)
  | 0 => .ok []
  | n + 1 =>
      match m.read lo with
      | none => .error lo
      | some b =>
          match Memory.readSpan m (lo + 1) n with
          | .error i => .error i
          | .ok bs => .ok (b :: bs)

/-! ## The checksum table and its accumulators (40_checksum.md) -/

/-- One of the eight shifts of the table's construction (R110). -/
def crcShift (v : Byte) : Byte := if v.msb then (v <<< 1) ^^^ Config.crcPoly else v <<< 1

/-- `T[i]` (R110): the index shifted eight times. -/
def crcTable (i : Byte) : Byte :=
  crcShift (crcShift (crcShift (crcShift (crcShift (crcShift (crcShift (crcShift i)))))))

/-- The running value after one byte (R112). -/
def crcNext (acc b : Byte) : Byte := crcTable (acc ^^^ b)

/-- The running value after a sequence of bytes, first byte first (R113). -/
def crcOver (acc : Byte) (bytes : List Byte) : Byte := bytes.foldl crcNext acc

/-- `crc_compute` (R115). -/
def crcCompute (bytes : List Byte) : Byte := crcOver Config.crcSeed bytes

/-- The value of an accumulator. -/
def State.crc (s : State) : Accumulator → Byte
  | .fx => s.fxCrc
  | .host => s.hostCrc

/-- Set an accumulator. -/
def State.setCrc (s : State) (acc : Accumulator) (v : Byte) : State :=
  match acc with
  | .fx => { s with fxCrc := v }
  | .host => { s with hostCrc := v }

/-- `crc_start(acc, seed)` (R111). -/
def State.crcStart (s : State) (acc : Accumulator) (seed : Byte) : State := s.setCrc acc seed

/-- `crc_update(acc, b)` (R112). -/
def State.crcUpdate (s : State) (acc : Accumulator) (b : Byte) : State :=
  s.setCrc acc (crcNext (s.crc acc) b)

/-- `crc_update_n(acc, bytes, length)` (R113). -/
def State.crcUpdaten (s : State) (acc : Accumulator) (bytes : List Byte) : State :=
  s.setCrc acc (crcOver (s.crc acc) bytes)

/-- `crc_finalize(acc)` (R114): the running value itself. -/
def State.crcFinalize (s : State) (acc : Accumulator) : Byte := s.crc acc

/-! ## Registers of the two machines -/

/-- `fx_state <- st`. -/
def State.fxGoto (s : State) (st : FxState) : State := { s with fxState := st }

/-- `pd_state <- st`. -/
def State.pdGoto (s : State) (st : PdState) : State := { s with pdState := st }

/-- Hand a result to the host. -/
def State.respond (s : State) (r : Response) : State := { s with response := r }

/-- The step ends with this event. -/
def State.emit (s : State) (e : Event) : State := s.respond (.event e)

/-- "reset buffers" (41_frame_extractor.md R120): what a start marker clears; the window closes. -/
def State.clearFrame (s : State) : State :=
  { s with fxLen := 0, fxHasId := false, fxId := 0, fxClaimed := 0, fxError := none,
           frameOpen := false }

/-- What an accepted opcode byte sets (42_payload_decoder.md R150); the window closes. -/
def State.clearMessage (s : State) (opcode : Byte) : State :=
  { s with pdOpcode := opcode, pdArgc := 0, pdHasString := false, pdStrlen := 0, pdAcc := 0,
           pdSign := .plus, pdError := none, msgOpen := false }

/-- `pd_sign <- sign; pd_acc <- acc`. -/
def State.setValue (s : State) (sign : Sign) (acc : Int16Bits) : State :=
  { s with pdSign := sign, pdAcc := acc }

/-- `pd_has_string <- true; pd_strlen <- 0` (42_payload_decoder.md R157). -/
def State.openString (s : State) : State := { s with pdHasString := true, pdStrlen := 0 }

/-- The frame output becomes valid (20_memory.md R66). -/
def State.openFrame (s : State) : State := { s with frameOpen := true }

/-- The message output becomes valid (20_memory.md R67). -/
def State.openMessage (s : State) : State := { s with msgOpen := true }

/-! ## Stores to the spaces -/

/-- `PAYLOAD[i] <- v`, then the rest of the rule; an index beyond the space faults. -/
def storePayload (i : Nat) (v : Byte) (s : State) (rest : State → Out) : Out :=
  if i < Config.payloadCap then rest { s with payload := s.payload.write i v }
  else .fault (.noSuchElement .payload i)

/-- `STR[j] <- v`, then the rest of the rule; an index beyond the space faults. -/
def storeStr (j : Nat) (v : Byte) (s : State) (rest : State → Out) : Out :=
  if j < Config.maxString then rest { s with str := s.str.write j v }
  else .fault (.noSuchElement .str j)

/-- `ARGS[k] <- v`, then the rest of the rule; an index beyond the space faults. -/
def storeArg (k : Nat) (v : Int16Bits) (s : State) (rest : State → Out) : Out :=
  if h : k < Config.maxArgs then rest { s with args := s.args.set k v h }
  else .fault (.noSuchElement .args k)

/-- Read `PAYLOAD[i]`, then the rest of the rule. -/
def loadPayload (i : Nat) (s : State) (rest : Byte → Out) : Out :=
  if i < Config.payloadCap then
    match s.payload.read i with
    | some c => rest c
    | none => .fault (.unwrittenElement .payload i)
  else .fault (.noSuchElement .payload i)

/-! ## Errors: the block's exceptions -/

/-- `code(E)` (60_exceptions.md R220). -/
def ErrorName.code : ErrorName → Int
  | .frameTooLong => -1
  | .invalidId => -2
  | .invalidChecksumDigits => -3
  | .checksumMismatch => -4
  | .expectedFrameEnd => -5
  | .missingMetadata => -6
  | .invalidDummyMetadata => -7
  | .unexpectedChar => -8
  | .tooManyArguments => -9
  | .valueOutOfRange => -10
  | .stringTooLong => -11
  | .invalidStringChar => -12
  | .tooManyStrings => -13
  | .invalidOpcode => -14
  | .duplicateMessage => -15
  | .unknownOpcode => -16
  | .wrongArgumentCount => -17
  | .missingStringArgument => -18
  | .unexpectedStringArgument => -19
  | .handlerDidNotRespond => -20

/-- The number an error register shows: 0 for `None` (60_exceptions.md R220). -/
def errorCode : Option ErrorName → Int
  | none => 0
  | some e => e.code

/-- The machine that raises an error. -/
inductive Engine
  | fx
  | pd
deriving DecidableEq, Repr

/-- `raise E`, the entry of the block's exceptions: the error register of the machine concerned takes
the code, that machine returns to its initial state, and the event is the error. FX: 60_exceptions.md
R224 (inside a frame the frame window is closed already); PD: R225, which closes the message window. -/
def State.raise (s : State) (m : Engine) (e : ErrorName) : State :=
  match m with
  | .fx => ({ s with fxError := some e, fxState := .awaitStart }).emit (.error e)
  | .pd => ({ s with pdError := some e, pdState := .waitOpcode, msgOpen := false }).emit (.error e)

/-! ## Selection of a transition (00_scope.md R2, 30_encoding.md R89) -/

/-- The transition of FX state `st` for a byte class: it happens when FX is in that state and the
byte is in the class (`inClass`), and is refused otherwise (log 10). -/
def onFx (st : FxState) (inClass : Bool) (s : State) (transition : Out) : Out :=
  if s.fxState = st ∧ inClass = true then transition else .refused .notSelected

/-- The transition of PD state `st` for a byte class, as `onFx`. -/
def onPd (st : PdState) (inClass : Bool) (s : State) (transition : Out) : Out :=
  if s.pdState = st ∧ inClass = true then transition else .refused .notSelected

/-- A step that raises an error (00_scope.md R16). -/
def raising (m : Engine) (e : ErrorName) (s : State) : Out := .next (s.raise m e)

/-- A step of FX that only moves to another state. -/
def fxMove (st : FxState) (s : State) : Out := .next ((s.fxGoto st).emit .quiet)

/-- A step of PD that only moves to another state. -/
def pdMove (st : PdState) (s : State) : Out := .next ((s.pdGoto st).emit .quiet)

/-- The message ends: PD returns to its initial state and the output becomes valid
(42_payload_decoder.md R153, R171). -/
def completeMessage (s : State) : Out :=
  .next (((s.pdGoto .waitOpcode).openMessage).emit .messageComplete)

/-- The first byte of a value: refused with `TooManyArguments` when the message already has 12
(42_payload_decoder.md R155 to R157). -/
def startValue (s : State) (accept : Out) : Out :=
  if s.valuesFull then raising .pd .tooManyArguments s else accept

/-- The end of an integer: it is stored, and PD goes on in `st` (42_payload_decoder.md R162, R163). -/
def endInteger (st : PdState) (s : State) : Out :=
  storeArg s.pdArgc s.pdAcc s fun t =>
    .next (({ t with pdArgc := s.pdArgc + 1 }.pdGoto st).emit .quiet)

end Sys2Proof.Machine
end

