-- ==== Sys2Proof/Machine/PayloadDecoder.lean ====
section
/-! DEFINITION. The transitions of the Payload Decoder (42_payload_decoder.md): one meaning per row of
the operation map, each the body of `pd_step(c)` for its (state, byte class) pair, and `pd_step`
itself, which BLK.DECODE repeats. -/

namespace Sys2Proof.Machine

/-! ## WaitOpcode -/

/-- `PD.OP.OPCODE` (R150). -/
def execPdOpOpcode (c : Byte) (s : State) : Out :=
  onPd .waitOpcode (isOpch c) s (pdMove .waitBracketOrEnd (s.clearMessage c))

/-- `PD.OP.BAD` (R151). -/
def execPdOpBad (c : Byte) (s : State) : Out :=
  onPd .waitOpcode (isNotOpch c) s (raising .pd .invalidOpcode s)

/-! ## WaitBracketOrEnd -/

/-- `PD.BE.LBR` (R152). -/
def execPdBeLbr (s : State) : Out := onPd .waitBracketOrEnd true s (pdMove .waitValue s)

/-- `PD.BE.NUL` (R153). -/
def execPdBeNul (s : State) : Out := onPd .waitBracketOrEnd true s (completeMessage s)

/-- `PD.BE.BAD` (R154). -/
def execPdBeBad (c : Byte) (s : State) : Out :=
  onPd .waitBracketOrEnd (isNotLbrNorNul c) s (raising .pd .unexpectedChar s)

/-! ## WaitValue -/

/-- `PD.VAL.MINUS` (R155). -/
def execPdValMinus (s : State) : Out :=
  onPd .waitValue true s (startValue s (pdMove .waitDigit (s.setValue .minus 0)))

/-- `PD.VAL.DIGIT` (R156). -/
def execPdValDigit (c : Byte) (s : State) : Out :=
  onPd .waitValue (isDigit c) s
    (startValue s (pdMove .waitDigitsOrCommaOrBracket (s.setValue .plus (toInt16 (decVal c)))))

/-- `PD.VAL.QUOTE` (R157): the 12-value test comes before the one-string test. -/
def execPdValQuote (s : State) : Out :=
  onPd .waitValue true s
    (startValue s
      (if s.pdHasString then raising .pd .tooManyStrings s else pdMove .waitString s.openString))

/-- `PD.VAL.BAD` (R158). -/
def execPdValBad (c : Byte) (s : State) : Out :=
  onPd .waitValue (startsNoValue c) s (raising .pd .unexpectedChar s)

/-! ## WaitDigit -/

/-- `PD.DIG.DIGIT` (R159): no range test; the value fits in every state a run reaches (log 14). -/
def execPdDigDigit (c : Byte) (s : State) : Out :=
  onPd .waitDigit (isDigit c) s
    (pdMove .waitDigitsOrCommaOrBracket (s.setValue s.pdSign (toInt16 (s.nextValue (decVal c)))))

/-- `PD.DIG.BAD` (R160). -/
def execPdDigBad (c : Byte) (s : State) : Out :=
  onPd .waitDigit (isNotDigit c) s (raising .pd .unexpectedChar s)

/-! ## WaitDigitsOrCommaOrBracket -/

/-- `PD.DCB.DIGIT` (R161): the range test is on the exact value. -/
def execPdDcbDigit (c : Byte) (s : State) : Out :=
  onPd .waitDigitsOrCommaOrBracket (isDigit c) s
    (if inInt16 (s.nextValue (decVal c)) then
      .next ((s.setValue s.pdSign (toInt16 (s.nextValue (decVal c)))).emit .quiet)
     else raising .pd .valueOutOfRange s)

/-- `PD.DCB.COMMA` (R162). -/
def execPdDcbComma (s : State) : Out :=
  onPd .waitDigitsOrCommaOrBracket true s (endInteger .waitValue s)

/-- `PD.DCB.RBR` (R163). -/
def execPdDcbRbr (s : State) : Out :=
  onPd .waitDigitsOrCommaOrBracket true s (endInteger .waitEnd s)

/-- `PD.DCB.BAD` (R164). -/
def execPdDcbBad (c : Byte) (s : State) : Out :=
  onPd .waitDigitsOrCommaOrBracket (continuesNoNumber c) s (raising .pd .unexpectedChar s)

/-! ## WaitString -/

/-- `PD.STR.QUOTE` (R165). -/
def execPdStrQuote (s : State) : Out := onPd .waitString true s (pdMove .waitCommaOrBracket s)

/-- `PD.STR.CHAR` (R166). -/
def execPdStrChar (c : Byte) (s : State) : Out :=
  onPd .waitString (isStrch c) s
    (if s.pdStrlen = Config.maxString then raising .pd .stringTooLong s
     else storeStr s.pdStrlen c s fun t =>
       .next ({ t with pdStrlen := s.pdStrlen + 1 }.emit .quiet))

/-- `PD.STR.BAD` (R167). -/
def execPdStrBad (c : Byte) (s : State) : Out :=
  onPd .waitString (isNoStringByte c) s (raising .pd .invalidStringChar s)

/-! ## WaitCommaOrBracket -/

/-- `PD.CB.COMMA` (R168). -/
def execPdCbComma (s : State) : Out := onPd .waitCommaOrBracket true s (pdMove .waitValue s)

/-- `PD.CB.RBR` (R169). -/
def execPdCbRbr (s : State) : Out := onPd .waitCommaOrBracket true s (pdMove .waitEnd s)

/-- `PD.CB.BAD` (R170). -/
def execPdCbBad (c : Byte) (s : State) : Out :=
  onPd .waitCommaOrBracket (isNotCommaNorRbr c) s (raising .pd .unexpectedChar s)

/-! ## WaitEnd -/

/-- `PD.END.NUL` (R171). -/
def execPdEndNul (s : State) : Out := onPd .waitEnd true s (completeMessage s)

/-- `PD.END.BAD` (R172). -/
def execPdEndBad (c : Byte) (s : State) : Out :=
  onPd .waitEnd (isNotNul c) s (raising .pd .unexpectedChar s)

/-! ## The step function -/

/-- `pd_step(c)` (R173): the one transition that the state and the byte select. -/
def pdStep (c : Byte) (s : State) : Out :=
  match s.pdState with
  | .waitOpcode => if isOpch c then execPdOpOpcode c s else execPdOpBad c s
  | .waitBracketOrEnd =>
      if c = lbr then execPdBeLbr s else if c = nul then execPdBeNul s else execPdBeBad c s
  | .waitValue =>
      if c = minus then execPdValMinus s
      else if isDigit c then execPdValDigit c s
      else if c = quote then execPdValQuote s
      else execPdValBad c s
  | .waitDigit => if isDigit c then execPdDigDigit c s else execPdDigBad c s
  | .waitDigitsOrCommaOrBracket =>
      if isDigit c then execPdDcbDigit c s
      else if c = comma then execPdDcbComma s
      else if c = rbr then execPdDcbRbr s
      else execPdDcbBad c s
  | .waitString =>
      if c = quote then execPdStrQuote s
      else if isStrch c then execPdStrChar c s
      else execPdStrBad c s
  | .waitCommaOrBracket =>
      if c = comma then execPdCbComma s else if c = rbr then execPdCbRbr s else execPdCbBad c s
  | .waitEnd => if c = nul then execPdEndNul s else execPdEndBad c s

end Sys2Proof.Machine
end

