-- ==== Sys2Proof/Machine/Block.lean ====
section
/-! DEFINITION. The block operations: reset and decode (43_block_operations.md R180, R182). -/

namespace Sys2Proof.Machine

/-- `BLK.RESET` (R180). The contents of PAYLOAD and STR become no value (log 8), those of ARGS free
values (log 7); the host's own things, `hostCrc` and `pending`, are not the block's (log 18). -/
def execBlkReset (s : State) : Out :=
  .next
    { s with
      fxState := .awaitStart, fxLen := 0, fxHasId := false, fxId := 0
      fxClaimed := 0, fxCrc := 0, fxError := none
      pdState := .waitOpcode, pdOpcode := 0x00, pdArgc := 0, pdHasString := false
      pdStrlen := 0, pdAcc := 0, pdSign := .plus, pdError := none
      payload := [], str := []
      args := Vector.ofFn fun k => Config.freeArg s.freeCount k.val
      freeCount := s.freeCount + 1
      frameOpen := false, msgOpen := false
      response := .done }

/-- The loop of BLK.DECODE (R182): feed `PAYLOAD[i]` and its `remaining - 1` successors to PD, and
stop at the first event. In the frame window the terminator always gives one; were there none
(a state no run reaches), the loop ends as the pseudocode does, with event `None` (log 15). -/
def decodeFrom : (remaining i : Nat) → State → Out
  | 0, _, s => .next s
  | remaining + 1, i, s =>
      loadPayload i s fun c =>
        match pdStep c s with
        | .next t => if t.response = .event .quiet then decodeFrom remaining (i + 1) t else .next t
        | .fault r => .fault r
        | .refused r => .refused r

/-- `BLK.DECODE` (R182): outside the frame window it is refused (93_implementation_defined.md U3). -/
def execBlkDecode (s : State) : Out :=
  if s.frameOpen then decodeFrom (s.fxLen + 1) 0 (s.pdGoto .waitOpcode)
  else .refused .outsideFrameWindow

end Sys2Proof.Machine
end

