-- ==== Sys2Proof/Machine/Checksum.lean ====
section
/-! DEFINITION. The operations of the Checksum unit (40_checksum.md R111 to R115). -/

namespace Sys2Proof.Machine

/-- `CRC.START` (R111). -/
def execCrcStart (acc : Accumulator) (seed : Byte) (s : State) : Out :=
  .next ((s.crcStart acc seed).respond .done)

/-- `CRC.UPDATE` (R112). -/
def execCrcUpdate (acc : Accumulator) (b : Byte) (s : State) : Out :=
  .next ((s.crcUpdate acc b).respond .done)

/-- `CRC.UPDATEN` (R113); a length that is not the list's is refused (93_implementation_defined.md U11). -/
def execCrcUpdaten (acc : Accumulator) (bytes : List Byte) (length : Nat) (s : State) : Out :=
  if length = bytes.length then .next ((s.crcUpdaten acc bytes).respond .done)
  else .refused .lengthMismatch

/-- `CRC.FINALIZE` (R114): returns the running value and changes no accumulator. -/
def execCrcFinalize (acc : Accumulator) (s : State) : Out :=
  .next (s.respond (.byte (s.crcFinalize acc)))

/-- `CRC.COMPUTE` (R115): reads only `T`; a length that is not the list's is refused (U11). -/
def execCrcCompute (bytes : List Byte) (length : Nat) (s : State) : Out :=
  if length = bytes.length then .next (s.respond (.byte (crcCompute bytes)))
  else .refused .lengthMismatch

end Sys2Proof.Machine
end

