-- ==== Sys2Proof/Machine/FrameExtractor.lean ====
section
/-! DEFINITION. The transitions of the Frame Extractor (41_frame_extractor.md): one meaning per row of
the operation map, each the body of `fx_step(c)` for its (state, byte class) pair. -/

namespace Sys2Proof.Machine

/-! ## AwaitStart -/

/-- `FX.START.HASH` (R120). -/
def execFxStartHash (s : State) : Out :=
  onFx .awaitStart true s
    (.next ((((s.clearFrame.crcStart .fx Config.crcSeed).crcUpdate .fx hashMark).fxGoto
      .awaitPayloadOrMetadata).emit .quiet))

/-- `FX.START.SKIP` (R121). -/
def execFxStartSkip (c : Byte) (s : State) : Out :=
  onFx .awaitStart (isNotHash c) s (.next (s.emit .quiet))

/-! ## AwaitPayloadOrMetadata -/

/-- `FX.PAY.COLON` (R122). -/
def execFxPayColon (s : State) : Out :=
  onFx .awaitPayloadOrMetadata true s (fxMove .awaitIdChar1 (s.crcUpdate .fx colon))

/-- `FX.PAY.EOL` (R123). -/
def execFxPayEol (c : Byte) (s : State) : Out :=
  onFx .awaitPayloadOrMetadata (isEol c) s (raising .fx .missingMetadata s)

/-- `FX.PAY.APPEND` (R124). -/
def execFxPayAppend (c : Byte) (s : State) : Out :=
  onFx .awaitPayloadOrMetadata (isPayloadByte c) s
    (if s.fxLen = Config.maxPayload then raising .fx .frameTooLong s
     else storePayload s.fxLen c s fun t =>
       .next (({ t with fxLen := s.fxLen + 1 }.crcUpdate .fx c).emit .quiet))

/-! ## AwaitIdChar1 and AwaitIdChar2 -/

/-- `FX.ID1.X` (R126). -/
def execFxId1X (s : State) : Out :=
  onFx .awaitIdChar1 true s (fxMove .awaitDummy2 { s with fxHasId := false })

/-- `FX.ID1.HEX` (R127). -/
def execFxId1Hex (c : Byte) (s : State) : Out :=
  onFx .awaitIdChar1 (isHex c) s
    (fxMove .awaitIdChar2 ({ s with fxHasId := true, fxId := hexVal c }.crcUpdate .fx c))

/-- `FX.ID1.BAD` (R128). -/
def execFxId1Bad (c : Byte) (s : State) : Out :=
  onFx .awaitIdChar1 (isNotLxNorHex c) s (raising .fx .invalidId s)

/-- `FX.ID2.HEX` (R129). -/
def execFxId2Hex (c : Byte) (s : State) : Out :=
  onFx .awaitIdChar2 (isHex c) s
    (fxMove .awaitChecksum1 ({ s with fxId := s.fxId * 16 + hexVal c }.crcUpdate .fx c))

/-- `FX.ID2.BAD` (R130). -/
def execFxId2Bad (c : Byte) (s : State) : Out :=
  onFx .awaitIdChar2 (isNotHex c) s (raising .fx .invalidId s)

/-! ## AwaitChecksum1 and AwaitChecksum2 -/

/-- `FX.CK1.HEX` (R131). -/
def execFxCk1Hex (c : Byte) (s : State) : Out :=
  onFx .awaitChecksum1 (isHex c) s (fxMove .awaitChecksum2 { s with fxClaimed := hexVal c })

/-- `FX.CK1.BAD` (R132). -/
def execFxCk1Bad (c : Byte) (s : State) : Out :=
  onFx .awaitChecksum1 (isNotHex c) s (raising .fx .invalidChecksumDigits s)

/-- `FX.CK2.HEX` (R133): the claimed checksum is completed, then compared. -/
def execFxCk2Hex (c : Byte) (s : State) : Out :=
  onFx .awaitChecksum2 (isHex c) s
    (let t := { s with fxClaimed := s.fxClaimed * 16 + hexVal c }
     if t.fxClaimed = t.crcFinalize .fx then fxMove .awaitCR t
     else raising .fx .checksumMismatch t)

/-- `FX.CK2.BAD` (R134). -/
def execFxCk2Bad (c : Byte) (s : State) : Out :=
  onFx .awaitChecksum2 (isNotHex c) s (raising .fx .invalidChecksumDigits s)

/-! ## AwaitDummy2, AwaitDummy3, AwaitDummy4 -/

/-- `FX.DUM2.X` (R135). -/
def execFxDum2X (s : State) : Out := onFx .awaitDummy2 true s (fxMove .awaitDummy3 s)

/-- `FX.DUM2.BAD` (R136). -/
def execFxDum2Bad (c : Byte) (s : State) : Out :=
  onFx .awaitDummy2 (isNotLx c) s (raising .fx .invalidDummyMetadata s)

/-- `FX.DUM3.X` (R137). -/
def execFxDum3X (s : State) : Out := onFx .awaitDummy3 true s (fxMove .awaitDummy4 s)

/-- `FX.DUM3.BAD` (R138). -/
def execFxDum3Bad (c : Byte) (s : State) : Out :=
  onFx .awaitDummy3 (isNotLx c) s (raising .fx .invalidDummyMetadata s)

/-- `FX.DUM4.X` (R139). -/
def execFxDum4X (s : State) : Out := onFx .awaitDummy4 true s (fxMove .awaitCR s)

/-- `FX.DUM4.BAD` (R140). -/
def execFxDum4Bad (c : Byte) (s : State) : Out :=
  onFx .awaitDummy4 (isNotLx c) s (raising .fx .invalidDummyMetadata s)

/-! ## AwaitCR and AwaitLF -/

/-- `FX.CR.CR` (R142). -/
def execFxCrCr (s : State) : Out :=
  onFx .awaitCR true s (storePayload s.fxLen Config.terminator s (fxMove .awaitLF))

/-- `FX.CR.BAD` (R143). -/
def execFxCrBad (c : Byte) (s : State) : Out :=
  onFx .awaitCR (isNotCr c) s (raising .fx .expectedFrameEnd s)

/-- `FX.LF.LF` (R144). -/
def execFxLfLf (s : State) : Out :=
  onFx .awaitLF true s (.next (((s.fxGoto .awaitStart).openFrame).emit .frameComplete))

/-- `FX.LF.BAD` (R145). -/
def execFxLfBad (c : Byte) (s : State) : Out :=
  onFx .awaitLF (isNotLf c) s (raising .fx .expectedFrameEnd s)

end Sys2Proof.Machine
end

