-- ==== Sys2Proof/Machine/Dispatch.lean ====
section
/-! DEFINITION. `exec`: one arm per row of the operation map (30_encoding.md R93), each a call of the
row's meaning. -/

namespace Sys2Proof.Machine

def exec (i : Instr) (s : State) : Host.Outcome State Fault Refusal :=
  match i with
  | .fxStartHash => Sys2Proof.Machine.execFxStartHash s
  | .fxStartSkip c => Sys2Proof.Machine.execFxStartSkip c s
  | .fxPayColon => Sys2Proof.Machine.execFxPayColon s
  | .fxPayEol c => Sys2Proof.Machine.execFxPayEol c s
  | .fxPayAppend c => Sys2Proof.Machine.execFxPayAppend c s
  | .fxId1X => Sys2Proof.Machine.execFxId1X s
  | .fxId1Hex c => Sys2Proof.Machine.execFxId1Hex c s
  | .fxId1Bad c => Sys2Proof.Machine.execFxId1Bad c s
  | .fxId2Hex c => Sys2Proof.Machine.execFxId2Hex c s
  | .fxId2Bad c => Sys2Proof.Machine.execFxId2Bad c s
  | .fxCk1Hex c => Sys2Proof.Machine.execFxCk1Hex c s
  | .fxCk1Bad c => Sys2Proof.Machine.execFxCk1Bad c s
  | .fxCk2Hex c => Sys2Proof.Machine.execFxCk2Hex c s
  | .fxCk2Bad c => Sys2Proof.Machine.execFxCk2Bad c s
  | .fxDum2X => Sys2Proof.Machine.execFxDum2X s
  | .fxDum2Bad c => Sys2Proof.Machine.execFxDum2Bad c s
  | .fxDum3X => Sys2Proof.Machine.execFxDum3X s
  | .fxDum3Bad c => Sys2Proof.Machine.execFxDum3Bad c s
  | .fxDum4X => Sys2Proof.Machine.execFxDum4X s
  | .fxDum4Bad c => Sys2Proof.Machine.execFxDum4Bad c s
  | .fxCrCr => Sys2Proof.Machine.execFxCrCr s
  | .fxCrBad c => Sys2Proof.Machine.execFxCrBad c s
  | .fxLfLf => Sys2Proof.Machine.execFxLfLf s
  | .fxLfBad c => Sys2Proof.Machine.execFxLfBad c s
  | .pdOpOpcode c => Sys2Proof.Machine.execPdOpOpcode c s
  | .pdOpBad c => Sys2Proof.Machine.execPdOpBad c s
  | .pdBeLbr => Sys2Proof.Machine.execPdBeLbr s
  | .pdBeNul => Sys2Proof.Machine.execPdBeNul s
  | .pdBeBad c => Sys2Proof.Machine.execPdBeBad c s
  | .pdValMinus => Sys2Proof.Machine.execPdValMinus s
  | .pdValDigit c => Sys2Proof.Machine.execPdValDigit c s
  | .pdValQuote => Sys2Proof.Machine.execPdValQuote s
  | .pdValBad c => Sys2Proof.Machine.execPdValBad c s
  | .pdDigDigit c => Sys2Proof.Machine.execPdDigDigit c s
  | .pdDigBad c => Sys2Proof.Machine.execPdDigBad c s
  | .pdDcbDigit c => Sys2Proof.Machine.execPdDcbDigit c s
  | .pdDcbComma => Sys2Proof.Machine.execPdDcbComma s
  | .pdDcbRbr => Sys2Proof.Machine.execPdDcbRbr s
  | .pdDcbBad c => Sys2Proof.Machine.execPdDcbBad c s
  | .pdStrQuote => Sys2Proof.Machine.execPdStrQuote s
  | .pdStrChar c => Sys2Proof.Machine.execPdStrChar c s
  | .pdStrBad c => Sys2Proof.Machine.execPdStrBad c s
  | .pdCbComma => Sys2Proof.Machine.execPdCbComma s
  | .pdCbRbr => Sys2Proof.Machine.execPdCbRbr s
  | .pdCbBad c => Sys2Proof.Machine.execPdCbBad c s
  | .pdEndNul => Sys2Proof.Machine.execPdEndNul s
  | .pdEndBad c => Sys2Proof.Machine.execPdEndBad c s
  | .crcStart acc seed => Sys2Proof.Machine.execCrcStart acc seed s
  | .crcUpdate acc b => Sys2Proof.Machine.execCrcUpdate acc b s
  | .crcUpdaten acc bytes length => Sys2Proof.Machine.execCrcUpdaten acc bytes length s
  | .crcFinalize acc => Sys2Proof.Machine.execCrcFinalize acc s
  | .crcCompute bytes length => Sys2Proof.Machine.execCrcCompute bytes length s
  | .blkReset => Sys2Proof.Machine.execBlkReset s
  | .blkDecode => Sys2Proof.Machine.execBlkDecode s

end Sys2Proof.Machine
end

