-- ==== Sys2Proof/Machine/HostPort.lean ====
section
/-! DEFINITION. What the host's side of the block does outside the operation map: taking the next
request, the reads of the outputs (30_encoding.md R96), and placing a word of the opcode table. -/

namespace Sys2Proof.Machine

/-- The next request and the state that waits for its effect. -/
def State.fetch (s : State) : Option (Request × State) :=
  match s.pending with
  | [] => none
  | r :: rest => some (r, { s with pending := rest })

/-- Hand the bytes of a span to the host, or fault at the first one nothing has written. -/
def deliverSpan (space : Space) (span : Except Nat (List Byte)) (rest : List Byte → Out) : Out :=
  match span with
  | .ok bytes => rest bytes
  | .error i => .fault (.unwrittenElement space i)

/-- The reads of R96. An output outside its window is refused (93_implementation_defined.md U3); the
status registers can always be read (10_state.md R28, R36). A read writes nothing but the result. -/
def readOutput (r : OutputRead) (s : State) : Out :=
  match r with
  | .frameOutput =>
      if s.frameOpen then
        deliverSpan .payload (s.payload.readSpan 0 (s.fxLen + 1)) fun bytes =>
          .next (s.respond (.frame bytes s.fxLen s.fxHasId s.fxId s.fxError))
      else .refused .outsideFrameWindow
  | .messageOutput =>
      if s.msgOpen then
        if s.pdArgc ≤ Config.maxArgs then
          deliverSpan .str (s.str.readSpan 0 s.pdStrlen) fun bytes =>
            .next (s.respond (.message s.pdOpcode (s.args.toList.take s.pdArgc) s.pdArgc
              s.pdHasString bytes s.pdStrlen s.pdError))
        else .fault (.noSuchElement .args s.pdArgc)
      else .refused .outsideMessageWindow
  | .fxError => .next (s.respond (.status s.fxError))
  | .pdError => .next (s.respond (.status s.pdError))

/-- Put the two machines in the state a word of the opcode table is read in, and present its byte as
the next request (log 9); bits that are no row's word change nothing. -/
def State.placeWord (s : State) (nbits w : Nat) : State :=
  match tableByte nbits w with
  | none => s
  | some c =>
      let k := tableContext c
      let st := k.enter s.fxState s.pdState
      { s with fxState := st.1, pdState := st.2, pending := .call (k.carry c) :: s.pending }

end Sys2Proof.Machine
end

