-- ==== Sys2Proof/Machine/Step.lean ====
section
/-! DEFINITION. One step: the next request of the host, made as one atomic transaction
(20_memory.md R64, R68). -/

namespace Sys2Proof.Machine

/-- One transaction. With nothing presented the block holds its registers (60_exceptions.md R242,
log 2). -/
def step (s : State) : Host.Outcome State Fault Refusal :=
  match s.fetch with
  | none => .next s
  | some (.read r, t) => readOutput r t
  | some (.call c, t) =>
      match decode t.fxState t.pdState c with
      | .ok i => exec i t
      | .error why => .refused (.undecodable why)

/-- The state in which the very next step runs the operation of an opcode-table word. -/
def State.withFetchWord (s : State) (nbits w : Nat) : State := s.placeWord nbits w

end Sys2Proof.Machine
end

