-- ==== Sys2Proof/Safety.lean ====
section
/-! DEFINITION. The terms claims are stated in: what an operation leaves unchanged, when it completes,
feeding bytes to the two machines, the frames and messages of the two grammars, the invariants of
10_state.md R46, and what counts as misuse by the host. -/

namespace Sys2Proof.Machine

/-! ## Frames of a step -/

/-- The pieces of `State`. -/
inductive Part
  | fxState | fxLen | payload | fxHasId | fxId | fxClaimed | fxCrc | fxError
  | pdState | pdOpcode | args | pdArgc | str | pdStrlen | pdHasString | pdAcc | pdSign | pdError
  | frameOpen | msgOpen | hostCrc | response | pending | freeCount
deriving DecidableEq, Repr

/-- A piece of the state is the same before (`s`) and after (`t`); the byte spaces read the same at
every index. -/
def Part.Same (p : Part) (s t : State) : Prop :=
  match p with
  | .fxState => t.fxState = s.fxState
  | .fxLen => t.fxLen = s.fxLen
  | .payload => ∀ a, t.payload.read a = s.payload.read a
  | .fxHasId => t.fxHasId = s.fxHasId
  | .fxId => t.fxId = s.fxId
  | .fxClaimed => t.fxClaimed = s.fxClaimed
  | .fxCrc => t.fxCrc = s.fxCrc
  | .fxError => t.fxError = s.fxError
  | .pdState => t.pdState = s.pdState
  | .pdOpcode => t.pdOpcode = s.pdOpcode
  | .args => t.args = s.args
  | .pdArgc => t.pdArgc = s.pdArgc
  | .str => ∀ a, t.str.read a = s.str.read a
  | .pdStrlen => t.pdStrlen = s.pdStrlen
  | .pdHasString => t.pdHasString = s.pdHasString
  | .pdAcc => t.pdAcc = s.pdAcc
  | .pdSign => t.pdSign = s.pdSign
  | .pdError => t.pdError = s.pdError
  | .frameOpen => t.frameOpen = s.frameOpen
  | .msgOpen => t.msgOpen = s.msgOpen
  | .hostCrc => t.hostCrc = s.hostCrc
  | .response => t.response = s.response
  | .pending => t.pending = s.pending
  | .freeCount => t.freeCount = s.freeCount

/-- Every piece of the state but those listed is the same before and after. -/
def OnlyWrites (written : List Part) (s t : State) : Prop := ∀ p, p ∉ written → p.Same s t

/-- The pieces that FX transitions may write (10_state.md R20), and the result. -/
def fxParts : List Part :=
  [.fxState, .fxLen, .payload, .fxHasId, .fxId, .fxClaimed, .fxCrc, .fxError, .frameOpen, .response]

/-- The pieces that PD transitions may write (10_state.md R20), and the result. -/
def pdParts : List Part :=
  [.pdState, .pdOpcode, .args, .pdArgc, .str, .pdStrlen, .pdHasString, .pdAcc, .pdSign, .pdError,
   .msgOpen, .response]

/-- An operation answers a next state, and `P` holds of it. -/
def Completes (o : Out) (P : State → Prop) : Prop := ∃ t, o = .next t ∧ P t

/-! ## The rows that always raise an error (41_frame_extractor.md, 42_payload_decoder.md) -/

/-- The FX rows whose whole action is `emit(error)`: their state and error (30_encoding.md R91). -/
def fxErrorRow : Instr → Option (FxState × ErrorName)
  | .fxPayEol _ => some (.awaitPayloadOrMetadata, .missingMetadata)
  | .fxId1Bad _ => some (.awaitIdChar1, .invalidId)
  | .fxId2Bad _ => some (.awaitIdChar2, .invalidId)
  | .fxCk1Bad _ => some (.awaitChecksum1, .invalidChecksumDigits)
  | .fxCk2Bad _ => some (.awaitChecksum2, .invalidChecksumDigits)
  | .fxDum2Bad _ => some (.awaitDummy2, .invalidDummyMetadata)
  | .fxDum3Bad _ => some (.awaitDummy3, .invalidDummyMetadata)
  | .fxDum4Bad _ => some (.awaitDummy4, .invalidDummyMetadata)
  | .fxCrBad _ => some (.awaitCR, .expectedFrameEnd)
  | .fxLfBad _ => some (.awaitLF, .expectedFrameEnd)
  | _ => none

/-- The PD rows whose whole action is `raise`: their state and error (30_encoding.md R91). -/
def pdErrorRow : Instr → Option (PdState × ErrorName)
  | .pdOpBad _ => some (.waitOpcode, .invalidOpcode)
  | .pdBeBad _ => some (.waitBracketOrEnd, .unexpectedChar)
  | .pdValBad _ => some (.waitValue, .unexpectedChar)
  | .pdDigBad _ => some (.waitDigit, .unexpectedChar)
  | .pdDcbBad _ => some (.waitDigitsOrCommaOrBracket, .unexpectedChar)
  | .pdStrBad _ => some (.waitString, .invalidStringChar)
  | .pdCbBad _ => some (.waitCommaOrBracket, .unexpectedChar)
  | .pdEndBad _ => some (.waitEnd, .unexpectedChar)
  | _ => none

/-- The PD rows whose whole action is a move: their state and the next one. -/
def pdMoveRow : Instr → Option (PdState × PdState)
  | .pdBeLbr => some (.waitBracketOrEnd, .waitValue)
  | .pdStrQuote => some (.waitString, .waitCommaOrBracket)
  | .pdCbComma => some (.waitCommaOrBracket, .waitValue)
  | .pdCbRbr => some (.waitCommaOrBracket, .waitEnd)
  | _ => none

/-- The dummy-metadata rows: their state and the next one. -/
def fxDummyRow : Instr → Option (FxState × FxState)
  | .fxDum2X => some (.awaitDummy2, .awaitDummy3)
  | .fxDum3X => some (.awaitDummy3, .awaitDummy4)
  | .fxDum4X => some (.awaitDummy4, .awaitCR)
  | _ => none

/-- The rows that begin a value: `'-'`, a digit, `'"'` in `WaitValue`. -/
def startsValue : Instr → Bool
  | .pdValMinus | .pdValDigit _ | .pdValQuote => true
  | _ => false

/-- The result of `raise E` in FX: the register, the state and the event (00_scope.md R16). -/
def FxRaised (e : ErrorName) (t : State) : Prop :=
  t.fxError = some e ∧ t.fxState = .awaitStart ∧ t.response = .event (.error e)

/-- The result of `raise E` in PD (00_scope.md R16); the message window is closed
(60_exceptions.md R225, log 4). -/
def PdRaised (e : ErrorName) (t : State) : Prop :=
  t.pdError = some e ∧ t.pdState = .waitOpcode ∧ t.msgOpen = false ∧
    t.response = .event (.error e)

/-- `hexval(c)` as a number, written from 00_scope.md R17 for the claims: `c - 0x30` on `'0'`-`'9'`,
`c - 0x61 + 10` on `'a'`-`'f'`. -/
def hexNat (c : Byte) : Nat := if c.toNat ≤ 0x39 then c.toNat - 0x30 else c.toNat - 0x61 + 10

/-- The register of an accumulator. -/
def accumulatorPart : Accumulator → Part
  | .fx => .fxCrc
  | .host => .hostCrc

/-- What FX's `raise` writes. -/
def fxRaiseParts : List Part := [.fxError, .fxState, .response]

/-- What PD's `raise` writes. -/
def pdRaiseParts : List Part := [.pdError, .pdState, .msgOpen, .response]

/-! ## Runs -/

/-- Present one call ahead of whatever is pending. -/
def State.present (s : State) (c : Transaction) : State :=
  { s with pending := .call c :: s.pending }

/-- Make one call for each byte in order, and collect what the calls return; `none` if one stops. -/
def feed (call : Byte → Transaction) : List Byte → State → Option (List Response × State)
  | [], s => some ([], s)
  | c :: cs, s =>
      match step (s.present (call c)) with
      | .next t =>
          match feed call cs t with
          | some (rs, u) => some (t.response :: rs, u)
          | none => none
      | _ => none

/-- `n` events `None` and then `e`: no event before the last byte. -/
def firstEventLast (n : Nat) (e : Event) : List Response :=
  List.replicate n (.event .quiet) ++ [.event e]

/-! ## Frames (30_encoding.md R80, R81) -/

/-- A payload the frame grammar allows: at most 58 bytes, none of them `':'`, CR, LF. -/
def IsPayload (p : List Byte) : Prop := p.length ≤ 58 ∧ ∀ b ∈ p, isPayloadByte b = true

/-- The bytes a form A checksum covers. -/
def coveredFormA (p : List Byte) (id : Byte) : List Byte := hashMark :: p ++ colon :: hex2 id

/-- A frame with a sequence id and its checksum (form A). -/
def frameA (p : List Byte) (id : Byte) : List Byte :=
  coveredFormA p id ++ hex2 (crcCompute (coveredFormA p id)) ++ [cr, lf]

/-- A frame with dummy metadata (form B). -/
def frameB (p : List Byte) : List Byte := hashMark :: p ++ [colon, lx, lx, lx, lx, cr, lf]

/-- The stored payload content is `p`: as long as `fx_len`, and element by element. -/
def State.HoldsPayload (s : State) (p : List Byte) : Prop :=
  s.fxLen = p.length ∧ ∀ i, i < p.length → s.payload.read i = p[i]?

/-- The frame output is valid and is this payload, terminated, with this id or none
(10_state.md R29). -/
def State.DeliversFrame (s : State) (p : List Byte) (id : Option Byte) : Prop :=
  s.frameOpen = true ∧ s.fxState = .awaitStart ∧ s.fxError = none ∧ s.HoldsPayload p ∧
    s.payload.read s.fxLen = some 0x00 ∧ s.fxHasId = id.isSome ∧ s.fxId = id.getD 0

/-! ## Messages (30_encoding.md R84) -/

/-- A bracketed value: an integer as its sign and digits, or a string as its characters. -/
inductive MsgValue
  | int (negative : Bool) (digits : List Byte)
  | str (chars : List Byte)
deriving DecidableEq, Repr

/-- The exact value a sign and a digit sequence spell (30_encoding.md R87). -/
def spelled (negative : Bool) (digits : List Byte) : Int :=
  digits.foldl (fun acc c => 10 * acc + (if negative then -1 else 1) * decVal c) 0

/-- The bytes of a value. -/
def MsgValue.bytes : MsgValue → List Byte
  | .int negative digits => (if negative then [minus] else []) ++ digits
  | .str chars => quote :: chars ++ [quote]

/-- The value obeys the grammar and its limits: digits, at least one, every prefix in the range of
`int16`; string characters, at most 32 (42_payload_decoder.md R174). -/
def MsgValue.Valid : MsgValue → Prop
  | .int negative digits =>
      digits ≠ [] ∧ (∀ c ∈ digits, isDigit c = true) ∧
        ∀ k ≤ digits.length, inInt16 (spelled negative (digits.take k)) = true
  | .str chars => chars.length ≤ 32 ∧ ∀ c ∈ chars, isStrch c = true

/-- The integers among the values, in order. -/
def msgInts : List MsgValue → List Int
  | [] => []
  | .int negative digits :: vs => spelled negative digits :: msgInts vs
  | .str _ :: vs => msgInts vs

/-- The strings among the values. -/
def msgStrings : List MsgValue → List (List Byte)
  | [] => []
  | .int _ _ :: vs => msgStrings vs
  | .str chars :: vs => chars :: msgStrings vs

/-- Values separated by commas. -/
def commaSeparated : List MsgValue → List Byte
  | [] => []
  | [v] => v.bytes
  | v :: vs => v.bytes ++ comma :: commaSeparated vs

/-- A message: opcode, the bracket part if there are values, terminator. -/
def message (opcode : Byte) (values : List MsgValue) : List Byte :=
  opcode :: (if values.isEmpty then [] else lbr :: commaSeparated values ++ [rbr]) ++ [nul]

/-- The message obeys the grammar and the limits of 12 values and one string
(42_payload_decoder.md R174). -/
def IsMessage (opcode : Byte) (values : List MsgValue) : Prop :=
  isOpch opcode = true ∧ values.length ≤ 12 ∧ (msgStrings values).length ≤ 1 ∧
    ∀ v ∈ values, v.Valid

/-- The message output is valid and is this message (10_state.md R37). -/
def State.DeliversMessage (s : State) (opcode : Byte) (values : List MsgValue) : Prop :=
  s.msgOpen = true ∧ s.pdState = .waitOpcode ∧ s.pdError = none ∧ s.pdOpcode = opcode ∧
    s.pdArgc = (msgInts values).length ∧
    (s.args.toList.take s.pdArgc).map BitVec.toInt = msgInts values ∧
    s.pdHasString = !(msgStrings values).isEmpty ∧
    s.str.readSpan 0 s.pdStrlen = .ok ((msgStrings values).head?.getD [])

/-! ## Invariants (10_state.md R46) -/

/-- The error is one FX raises (60_exceptions.md R220). -/
def ErrorName.isFx (e : ErrorName) : Bool := decide (-7 ≤ e.code)

/-- The error is one PD raises (60_exceptions.md R220). -/
def ErrorName.isPd (e : ErrorName) : Bool := decide (-14 ≤ e.code) && decide (e.code ≤ -8)

/-- The bytes whose checksum `fx_crc` holds when the payload content is `p`, in a state that says
(item 9 of R46): inside a frame, and in the frame window. -/
def State.covered (s : State) (p : List Byte) : Option (List Byte) :=
  match s.fxState with
  | .awaitStart =>
      if s.frameOpen then
        some (hashMark :: p ++ colon :: (if s.fxHasId then hex2 s.fxId else []))
      else none
  | .awaitPayloadOrMetadata => some (hashMark :: p)
  | .awaitIdChar1 | .awaitDummy2 | .awaitDummy3 | .awaitDummy4 => some (hashMark :: p ++ [colon])
  | .awaitIdChar2 => some (hashMark :: p ++ [colon, hexDigit s.fxId])
  | .awaitChecksum1 | .awaitChecksum2 => some (hashMark :: p ++ colon :: hex2 s.fxId)
  | .awaitCR | .awaitLF =>
      some (hashMark :: p ++ colon :: (if s.fxHasId then hex2 s.fxId else []))

/-- What holds of FX at reset and after every step (items 1 to 5 and 9 of R46), and what makes those
inductive. -/
structure FxInv (s : State) : Prop where
  /-- Item 1. -/
  len_le : s.fxLen ≤ 58
  /-- `PAYLOAD` is in canonical form (log 8) and within its 59 elements. -/
  canonical : s.payload.wf Config.payloadCap = true
  /-- Items 4, 5 and 9: the content is written, holds no reserved byte, and is what the checksum covers. -/
  content : ∃ p, s.HoldsPayload p ∧ IsPayload p ∧
    ∀ bytes, s.covered p = some bytes → s.fxCrc = crcCompute bytes
  /-- Item 4: the terminator is there when it is to be read. -/
  terminated : s.fxState = .awaitLF ∨ s.frameOpen = true → s.payload.read s.fxLen = some 0x00
  /-- 20_memory.md R66: inside the window FX is in `AwaitStart`. -/
  open_at_start : s.frameOpen = true → s.fxState = .awaitStart
  /-- Item 2. -/
  id_one_digit : s.fxState = .awaitIdChar2 → s.fxId.toNat ≤ 15
  /-- Item 3. -/
  claimed_one_digit : s.fxState = .awaitChecksum2 → s.fxClaimed.toNat ≤ 15
  /-- The id is there once its first digit was taken. -/
  with_id : s.fxState = .awaitIdChar2 ∨ s.fxState = .awaitChecksum1 ∨ s.fxState = .awaitChecksum2 →
    s.fxHasId = true
  /-- 41_frame_extractor.md R141: on the dummy path there is none. -/
  without_id : s.fxState = .awaitPayloadOrMetadata ∨ s.fxState = .awaitIdChar1 ∨
    s.fxState = .awaitDummy2 ∨ s.fxState = .awaitDummy3 ∨ s.fxState = .awaitDummy4 →
    s.fxHasId = false
  /-- 10_state.md R29: without an id, `fx_id` is 0. -/
  no_id_zero : s.fxHasId = false → s.fxId = 0
  /-- 41_frame_extractor.md R141: past the checksum of a form A frame, claimed and computed agree. -/
  verified : s.fxState = .awaitCR ∨ s.fxState = .awaitLF ∨ s.frameOpen = true →
    s.fxHasId = true → s.fxClaimed = s.fxCrc
  /-- 10_state.md R28: no error within a frame or in its window. -/
  no_error : s.fxState ≠ .awaitStart ∨ s.frameOpen = true → s.fxError = none
  /-- 10_state.md R28: `fx_error` is `None` or an FX error. -/
  error_fx : ∀ e, s.fxError = some e → e.isFx = true

/-- What holds of PD at reset and after every step (items 6 and 8 of R46), and what makes those
inductive. -/
structure PdInv (s : State) : Prop where
  /-- Item 6. -/
  strlen_le : s.pdStrlen ≤ 32
  /-- Item 6. -/
  nvalues_le : s.nvalues ≤ 12
  /-- `STR` is in canonical form (log 8) and within its 32 elements. -/
  canonical : s.str.wf Config.maxString = true
  /-- Item 8: the string's characters are written, and are string characters. -/
  string : ∃ cs, s.str.readSpan 0 s.pdStrlen = .ok cs ∧ ∀ c ∈ cs, isStrch c = true
  /-- 42_payload_decoder.md R175: an integer in progress still has its place. -/
  room : s.pdState = .waitDigit ∨ s.pdState = .waitDigitsOrCommaOrBracket → s.nvalues ≤ 11
  /-- 42_payload_decoder.md R159: before the first digit the value is 0 and the sign negative. -/
  fresh : s.pdState = .waitDigit → s.pdAcc = 0 ∧ s.pdSign = .minus
  /-- Only a message with a string has stored characters. -/
  no_string_empty : s.pdHasString = false → s.pdStrlen = 0
  /-- 42_payload_decoder.md R153: right after the opcode there is no value yet. -/
  bare : s.pdState = .waitBracketOrEnd → s.pdArgc = 0 ∧ s.pdHasString = false
  /-- Inside a string there is one. -/
  in_string : s.pdState = .waitString ∨ s.pdState = .waitCommaOrBracket → s.pdHasString = true
  /-- 20_memory.md R67, 60_exceptions.md R225: the message window sits in `WaitOpcode`. -/
  open_at_opcode : s.msgOpen = true → s.pdState = .waitOpcode
  /-- 10_state.md R36: no error within a message or in its window. -/
  no_error : s.pdState ≠ .waitOpcode ∨ s.msgOpen = true → s.pdError = none
  /-- 10_state.md R32: the opcode is a member of `OPCH`. -/
  opcode : s.pdState ≠ .waitOpcode ∨ s.msgOpen = true → isOpch s.pdOpcode = true
  /-- 10_state.md R36: `pd_error` is `None` or a PD error. -/
  error_pd : ∀ e, s.pdError = some e → e.isPd = true

/-- The whole block is in good order. -/
structure BlockInv (s : State) : Prop where
  fx : FxInv s
  pd : PdInv s

/-! ## Misuse by the host -/

/-- The next request is one that the spec says to refuse: an output or BLK.DECODE outside its window
(93_implementation_defined.md U3), a Checksum operation on `fx_crc` (30_encoding.md R96), or a length
that is not the list's (U11). -/
def State.misused (s : State) : Bool :=
  match s.pending with
  | [] => false
  | .read .frameOutput :: _ => !s.frameOpen
  | .read .messageOutput :: _ => !s.msgOpen
  | .read .fxError :: _ => false
  | .read .pdError :: _ => false
  | .call (.crcStart acc _) :: _ => acc == .fx
  | .call (.crcUpdate acc _) :: _ => acc == .fx
  | .call (.crcUpdaten acc bytes length) :: _ => acc == .fx || length != bytes.length
  | .call (.crcFinalize acc) :: _ => acc == .fx
  | .call (.crcCompute bytes length) :: _ => length != bytes.length
  | .call .blkDecode :: _ => !s.frameOpen
  | .call (.fxStep _) :: _ => false
  | .call (.pdStep _) :: _ => false
  | .call .blkReset :: _ => false

end Sys2Proof.Machine
end

