-- ==== Sys2Proof/Certificates/Slice0/Obligations.lean ====
section
/-! DEFINITION. The statements for the provers. Each docstring names the rule of spec/ it formalises;
a clause about the model's own fields (`response`, `pending`, the windows) rests on log 1, 3 or 4. -/

open Sys2Proof Sys2Proof.Machine

/-! ## Decoding and stepping -/

/-- Decode and encode agree: in every state its encoding admits, an operation's transaction selects
exactly it (the operation map, 30_encoding.md section 6). -/
def Obligations.DecodeOfEncodeIsTheInstruction : Prop :=
  ∀ (i : Instr) (fx : FxState) (pd : PdState), i.WellFormed →
    (encode i).context.admits fx pd = true → decode fx pd (encode i).transaction = .ok i

/-- What the decoder selects is well formed, in its own row's state, and carried by that very
transaction: no transaction is read as another's row. -/
def Obligations.EncodeOfDecodeIsTheTransaction : Prop :=
  ∀ (fx : FxState) (pd : PdState) (t : Transaction) (i : Instr), decode fx pd t = .ok i →
    i.WellFormed ∧ (encode i).context.admits fx pd = true ∧ (encode i).transaction = t

/-- Every one of the 256 bytes selects exactly one row in every state of each machine
(30_encoding.md R89, an inference of the spec). -/
def Obligations.EveryByteSelectsExactlyOneRow : Prop :=
  ∀ (fx : FxState) (pd : PdState) (c : Byte),
    (∃! i : Instr, i.WellFormed ∧ (encode i).context = .fx fx ∧ (encode i).transaction = .fxStep c) ∧
    (∃! i : Instr, i.WellFormed ∧ (encode i).context = .pd pd ∧ (encode i).transaction = .pdStep c)

/-- A few bytes written out from the operation map select the rows they stand for. -/
def Obligations.SampleBytesDecode : Prop :=
  decodeFx .awaitStart 0b00100011 = .fxStartHash ∧
  decodeFx .awaitPayloadOrMetadata 0b00001101 = .fxPayEol 0x0D ∧
  decodeFx .awaitIdChar1 0b01111000 = .fxId1X ∧
  decodeFx .awaitIdChar1 0b01011000 = .fxId1Bad 0x58 ∧
  decodeFx .awaitChecksum2 0b01100110 = .fxCk2Hex 0x66 ∧
  decodePd .waitOpcode 0b00111111 = .pdOpOpcode 0x3F ∧
  decodePd .waitValue 0b00101101 = .pdValMinus ∧
  decodePd .waitString 0b00100011 = .pdStrBad 0x23 ∧
  decodePd .waitEnd 0b00000000 = .pdEndNul

/-- A step makes the next call: it runs the operation that the call selects in the present states of
the two machines, on the state without that call (00_scope.md R15; the queue of calls is log 1). -/
def Obligations.StepRunsTheDecodedInstruction : Prop :=
  ∀ (s : State) (c : Transaction) (rest : List Request) (i : Instr),
    s.pending = .call c :: rest → decode s.fxState s.pdState c = .ok i →
      step s = exec i { s with pending := rest }

/-! ## Reset -/

/-- The reset table of 10_state.md section 7 (the spec's decision D20 but for the two states), the
windows closed (70_reset_and_hazards.md section 1). For the contents of PAYLOAD, STR and ARGS the table
says "unspecified": that no element of PAYLOAD or STR has a value (log 8) and that every entry of ARGS
is zero (log 6) are the model's choices, as are `response` and `pending` (logs 3 and 1). -/
def Obligations.ResetLeavesInitialValues : Prop :=
  State.reset.fxState = .awaitStart ∧ State.reset.fxLen = 0 ∧ State.reset.fxHasId = false ∧
  State.reset.fxId = 0 ∧ State.reset.fxClaimed = 0 ∧ State.reset.fxCrc = 0 ∧
  State.reset.fxError = none ∧ State.reset.pdState = .waitOpcode ∧ State.reset.pdOpcode = 0x00 ∧
  State.reset.pdArgc = 0 ∧ State.reset.pdHasString = false ∧ State.reset.pdStrlen = 0 ∧
  State.reset.pdAcc = 0 ∧ State.reset.pdSign = .plus ∧ State.reset.pdError = none ∧
  State.reset.frameOpen = false ∧ State.reset.msgOpen = false ∧
  (∀ a, State.reset.payload.read a = none) ∧ (∀ a, State.reset.str.read a = none) ∧
  (∀ v ∈ State.reset.args.toList, v = 0) ∧ State.reset.response = .done ∧ State.reset.pending = []

/-- The block is in good order right after reset (10_state.md section 8); the canonical form and the
windows in it are the model's (logs 8 and 4). -/
def Obligations.ResetIsInGoodOrder : Prop := BlockInv State.reset

/-- BLK.RESET puts every register at its reset value, leaves no element of PAYLOAD or STR with a value
(log 8) and nothing said of ARGS, closes both windows, and touches nothing of the host's (log 18)
(43_block_operations.md section 2, the spec's decision D20). -/
def Obligations.BlkResetLeavesResetValues : Prop :=
  ∀ s : State, Completes (exec .blkReset s) fun t =>
    t.fxState = .awaitStart ∧ t.fxLen = 0 ∧ t.fxHasId = false ∧ t.fxId = 0 ∧ t.fxClaimed = 0 ∧
    t.fxCrc = 0 ∧ t.fxError = none ∧ t.pdState = .waitOpcode ∧ t.pdOpcode = 0x00 ∧ t.pdArgc = 0 ∧
    t.pdHasString = false ∧ t.pdStrlen = 0 ∧ t.pdAcc = 0 ∧ t.pdSign = .plus ∧ t.pdError = none ∧
    t.frameOpen = false ∧ t.msgOpen = false ∧
    (∀ a, t.payload.read a = none) ∧ (∀ a, t.str.read a = none) ∧ t.response = .done ∧
    t.hostCrc = s.hostCrc ∧ t.pending = s.pending ∧ BlockInv t

/-! ## Checksum -/

/-- 40_checksum.md R110: eight shifts, each XORing the polynomial in when the top bit was set; the
corner cases are the rule's. -/
def Obligations.ChecksumTableConstruction : Prop :=
  (∀ i : Byte, crcTable i =
    (fun v : Byte => if v.getLsbD 7 then (v <<< 1) ^^^ 0x07 else v <<< 1)^[8] i) ∧
  crcTable 0x00 = 0x00 ∧ crcTable 0x01 = 0x07 ∧ crcTable 0x80 = 0x89 ∧ crcTable 0xFF = 0xF3 ∧
  crcTable 0x23 = 0xE9

/-- 40_checksum.md R111, on either accumulator. -/
def Obligations.CrcStartLoadsTheSeed : Prop :=
  ∀ (acc : Accumulator) (seed : Byte) (s : State), Completes (exec (.crcStart acc seed) s) fun t =>
    t.crc acc = seed ∧ t.response = .done ∧ OnlyWrites [accumulatorPart acc, .response] s t

/-- 40_checksum.md R112, on either accumulator. -/
def Obligations.CrcUpdateLooksUpTheTable : Prop :=
  ∀ (acc : Accumulator) (b : Byte) (s : State), Completes (exec (.crcUpdate acc b) s) fun t =>
    t.crc acc = crcTable (s.crc acc ^^^ b) ∧ t.response = .done ∧
    OnlyWrites [accumulatorPart acc, .response] s t

/-- CRC.UPDATEN completes on any byte list with its own length, and is CRC.UPDATE on the first byte
followed by CRC.UPDATEN on the rest (40_checksum.md section 2, the spec's decision D25); with a length
that is not the list's it is refused (93_implementation_defined.md U11). -/
def Obligations.CrcUpdatenUpdatesByteByByte : Prop :=
  ∀ (acc : Accumulator) (s : State),
    (∀ bytes : List Byte, Completes (exec (.crcUpdaten acc bytes bytes.length) s) fun t =>
      t.response = .done ∧ OnlyWrites [accumulatorPart acc, .response] s t) ∧
    exec (.crcUpdaten acc [] 0) s = .next (s.respond .done) ∧
    (∀ (b : Byte) (bytes : List Byte) (t : State), exec (.crcUpdate acc b) s = .next t →
      exec (.crcUpdaten acc (b :: bytes) (bytes.length + 1)) s =
        exec (.crcUpdaten acc bytes bytes.length) t) ∧
    (∀ (bytes : List Byte) (n : Nat), n ≠ bytes.length →
      exec (.crcUpdaten acc bytes n) s = .refused .lengthMismatch)

/-- CRC.FINALIZE returns the running value and changes no accumulator (40_checksum.md section 2, the
spec's decision D2). -/
def Obligations.CrcFinalizeReturnsTheRunningValue : Prop :=
  ∀ (acc : Accumulator) (s : State), Completes (exec (.crcFinalize acc) s) fun t =>
    t.response = .byte (s.crc acc) ∧ OnlyWrites [.response] s t

/-- CRC.COMPUTE returns the checksum of the bytes, which is what starting the host's accumulator at
0, updating it with them and finalizing it would return, and touches no accumulator (40_checksum.md
section 2, the spec's decision D4); a length that is not the list's is refused (U11). -/
def Obligations.CrcComputeIsStartUpdateFinalize : Prop :=
  ∀ (bytes : List Byte) (s : State),
    (Completes (exec (.crcCompute bytes bytes.length) s) fun t =>
      OnlyWrites [.response] s t ∧
      ∀ u v w, exec (.crcStart .host 0x00) s = .next u →
        exec (.crcUpdaten .host bytes bytes.length) u = .next v →
        exec (.crcFinalize .host) v = .next w → t.response = w.response) ∧
    ∀ n, n ≠ bytes.length → exec (.crcCompute bytes n) s = .refused .lengthMismatch

/-- The table is linear over exclusive-or and a permutation, and appending its checksum to a sequence
gives checksum 0 (40_checksum.md section 3 (b), (d), (e)). -/
def Obligations.ChecksumIsLinearAndSelfCancelling : Prop :=
  (∀ a b : Byte, crcTable (a ^^^ b) = crcTable a ^^^ crcTable b) ∧
  (∀ a b : Byte, crcTable a = crcTable b → a = b) ∧
  ∀ bytes : List Byte, crcCompute (bytes ++ [crcCompute bytes]) = 0

/-- A change of exactly one byte always changes the checksum (40_checksum.md section 3 (c)). -/
def Obligations.OneByteChangeChangesTheChecksum : Prop :=
  ∀ (before after : List Byte) (a b : Byte), a ≠ b →
    crcCompute (before ++ a :: after) ≠ crcCompute (before ++ b :: after)

/-! ## Frame Extractor -/

/-- FX.START.HASH: buffers reset, checksum restarted and updated with the marker
(41_frame_extractor.md section 1, the spec's decision D7). -/
def Obligations.StartMarkerOpensAFrame : Prop :=
  ∀ s : State, s.fxState = .awaitStart → Completes (exec .fxStartHash s) fun t =>
    t.fxLen = 0 ∧ t.fxHasId = false ∧ t.fxId = 0 ∧ t.fxClaimed = 0 ∧ t.fxError = none ∧
    t.fxCrc = crcTable 0x23 ∧ t.fxState = .awaitPayloadOrMetadata ∧ t.frameOpen = false ∧
    t.response = .event .quiet ∧
    OnlyWrites [.fxLen, .fxHasId, .fxId, .fxClaimed, .fxError, .fxCrc, .fxState, .frameOpen,
      .response] s t

/-- 41_frame_extractor.md R121: nothing is written, and the event is `None`. -/
def Obligations.NoiseBeforeAFrameIsIgnored : Prop :=
  ∀ (s : State) (c : Byte), s.fxState = .awaitStart → c ≠ 0x23 →
    Completes (exec (.fxStartSkip c) s) fun t =>
      t.response = .event .quiet ∧ OnlyWrites [.response] s t

/-- 41_frame_extractor.md R122. -/
def Obligations.ColonEndsThePayload : Prop :=
  ∀ s : State, s.fxState = .awaitPayloadOrMetadata → Completes (exec .fxPayColon s) fun t =>
    t.fxCrc = crcTable (s.fxCrc ^^^ 0x3A) ∧ t.fxState = .awaitIdChar1 ∧
    t.response = .event .quiet ∧ OnlyWrites [.fxCrc, .fxState, .response] s t

/-- `raise` for FX, on the ten rows whose whole action it is: R123, R128, R130, R132, R134, R136, R138,
R140, R143, R145 of 41_frame_extractor.md. -/
def Obligations.FxErrorRowsRaiseTheirError : Prop :=
  ∀ (i : Instr) (st : FxState) (e : ErrorName) (s : State), fxErrorRow i = some (st, e) →
    i.WellFormed → s.fxState = st →
      Completes (exec i s) fun t => FxRaised e t ∧ OnlyWrites fxRaiseParts s t

/-- 41_frame_extractor.md R124: below 58 bytes the byte is stored and covered; the 59th raises. -/
def Obligations.PayloadByteIsAppendedUpTo58 : Prop :=
  ∀ (s : State) (c : Byte), s.fxState = .awaitPayloadOrMetadata →
    c ≠ 0x3A → c ≠ 0x0D → c ≠ 0x0A →
    (s.fxLen < 58 → Completes (exec (.fxPayAppend c) s) fun t =>
      t.payload.read s.fxLen = some c ∧ (∀ a, a ≠ s.fxLen → t.payload.read a = s.payload.read a) ∧
      t.fxLen = s.fxLen + 1 ∧ t.fxCrc = crcTable (s.fxCrc ^^^ c) ∧ t.response = .event .quiet ∧
      OnlyWrites [.payload, .fxLen, .fxCrc, .response] s t) ∧
    (s.fxLen = 58 → Completes (exec (.fxPayAppend c) s) fun t =>
      FxRaised .frameTooLong t ∧ OnlyWrites fxRaiseParts s t)

/-- 41_frame_extractor.md R126; in good order the id stays 0. -/
def Obligations.DummyMetadataHasNoId : Prop :=
  ∀ s : State, s.fxState = .awaitIdChar1 → Completes (exec .fxId1X s) fun t =>
    t.fxHasId = false ∧ t.fxState = .awaitDummy2 ∧ t.response = .event .quiet ∧
    (FxInv s → t.fxId = 0) ∧ OnlyWrites [.fxHasId, .fxState, .response] s t

/-- 41_frame_extractor.md R127: the digit's value goes to the id, its character to the checksum. -/
def Obligations.FirstIdDigitIsTaken : Prop :=
  ∀ (s : State) (c : Byte), s.fxState = .awaitIdChar1 → isHex c = true →
    Completes (exec (.fxId1Hex c) s) fun t =>
      t.fxHasId = true ∧ t.fxId.toNat = hexNat c ∧ t.fxCrc = crcTable (s.fxCrc ^^^ c) ∧
      t.fxState = .awaitIdChar2 ∧ t.response = .event .quiet ∧
      OnlyWrites [.fxHasId, .fxId, .fxCrc, .fxState, .response] s t

/-- 41_frame_extractor.md R129; that the first digit left at most 15 is part of the FX invariant. -/
def Obligations.SecondIdDigitIsTaken : Prop :=
  ∀ (s : State) (c : Byte), s.fxState = .awaitIdChar2 → isHex c = true → s.fxId.toNat ≤ 15 →
    Completes (exec (.fxId2Hex c) s) fun t =>
      t.fxId.toNat = s.fxId.toNat * 16 + hexNat c ∧ t.fxCrc = crcTable (s.fxCrc ^^^ c) ∧
      t.fxState = .awaitChecksum1 ∧ t.response = .event .quiet ∧
      OnlyWrites [.fxId, .fxCrc, .fxState, .response] s t

/-- 41_frame_extractor.md R131. -/
def Obligations.FirstChecksumDigitIsTaken : Prop :=
  ∀ (s : State) (c : Byte), s.fxState = .awaitChecksum1 → isHex c = true →
    Completes (exec (.fxCk1Hex c) s) fun t =>
      t.fxClaimed.toNat = hexNat c ∧ t.fxState = .awaitChecksum2 ∧ t.response = .event .quiet ∧
      OnlyWrites [.fxClaimed, .fxState, .response] s t

/-- FX.CK2.HEX: the claimed checksum is completed and compared with the running one
(41_frame_extractor.md section 4); that the first digit left at most 15 is part of the FX invariant. -/
def Obligations.SecondChecksumDigitIsCompared : Prop :=
  ∀ (s : State) (c : Byte), s.fxState = .awaitChecksum2 → isHex c = true → s.fxClaimed.toNat ≤ 15 →
    (s.fxClaimed.toNat * 16 + hexNat c = s.fxCrc.toNat →
      Completes (exec (.fxCk2Hex c) s) fun t =>
        t.fxClaimed.toNat = s.fxClaimed.toNat * 16 + hexNat c ∧ t.fxState = .awaitCR ∧
        t.response = .event .quiet ∧ OnlyWrites [.fxClaimed, .fxState, .response] s t) ∧
    (s.fxClaimed.toNat * 16 + hexNat c ≠ s.fxCrc.toNat →
      Completes (exec (.fxCk2Hex c) s) fun t =>
        t.fxClaimed.toNat = s.fxClaimed.toNat * 16 + hexNat c ∧ FxRaised .checksumMismatch t ∧
        OnlyWrites (.fxClaimed :: fxRaiseParts) s t)

/-- 41_frame_extractor.md R135, R137, R139: each `'x'` only moves on. -/
def Obligations.DummyLettersMoveOn : Prop :=
  ∀ (i : Instr) (st next : FxState) (s : State), fxDummyRow i = some (st, next) → s.fxState = st →
    Completes (exec i s) fun t =>
      t.fxState = next ∧ t.response = .event .quiet ∧ OnlyWrites [.fxState, .response] s t

/-- FX.CR.CR: the terminator is stored after the content, and the length does not count it
(41_frame_extractor.md section 6, the spec's decision D6); the length bound is in the FX invariant. -/
def Obligations.CarriageReturnTerminatesThePayload : Prop :=
  ∀ s : State, s.fxState = .awaitCR → s.fxLen ≤ 58 → Completes (exec .fxCrCr s) fun t =>
    t.payload.read s.fxLen = some 0x00 ∧ (∀ a, a ≠ s.fxLen → t.payload.read a = s.payload.read a) ∧
    t.fxState = .awaitLF ∧ t.response = .event .quiet ∧
    OnlyWrites [.payload, .fxState, .response] s t

/-- 41_frame_extractor.md R144: the frame is complete, nothing else is written, the window opens, and
in good order `fx_error` is `None`. -/
def Obligations.LineFeedCompletesTheFrame : Prop :=
  ∀ s : State, s.fxState = .awaitLF → Completes (exec .fxLfLf s) fun t =>
    t.fxState = .awaitStart ∧ t.response = .event .frameComplete ∧ t.frameOpen = true ∧
    (FxInv s → t.fxError = none) ∧ OnlyWrites [.fxState, .frameOpen, .response] s t

/-! ## Payload Decoder -/

/-- PD.OP.OPCODE: the message starts (42_payload_decoder.md section 1, the spec's decision D17). -/
def Obligations.OpcodeStartsAMessage : Prop :=
  ∀ (s : State) (c : Byte), s.pdState = .waitOpcode → isOpch c = true →
    Completes (exec (.pdOpOpcode c) s) fun t =>
      t.pdOpcode = c ∧ t.pdArgc = 0 ∧ t.pdHasString = false ∧ t.pdStrlen = 0 ∧ t.pdAcc = 0 ∧
      t.pdSign = .plus ∧ t.pdError = none ∧ t.pdState = .waitBracketOrEnd ∧ t.msgOpen = false ∧
      t.response = .event .quiet ∧
      OnlyWrites [.pdOpcode, .pdArgc, .pdHasString, .pdStrlen, .pdAcc, .pdSign, .pdError, .pdState,
        .msgOpen, .response] s t

/-- `raise` for PD, on the eight rows whose whole action it is (42_payload_decoder.md, the rows named
*.BAD; which error each raises is the spec's decision D12). -/
def Obligations.PdErrorRowsRaiseTheirError : Prop :=
  ∀ (i : Instr) (st : PdState) (e : ErrorName) (s : State), pdErrorRow i = some (st, e) →
    i.WellFormed → s.pdState = st →
      Completes (exec i s) fun t => PdRaised e t ∧ OnlyWrites pdRaiseParts s t

/-- 42_payload_decoder.md R152, R165, R168, R169: rows that only move. -/
def Obligations.PunctuationMovesPd : Prop :=
  ∀ (i : Instr) (st next : PdState) (s : State), pdMoveRow i = some (st, next) → s.pdState = st →
    Completes (exec i s) fun t =>
      t.pdState = next ∧ t.response = .event .quiet ∧ OnlyWrites [.pdState, .response] s t

/-- 42_payload_decoder.md R153, R171: the message is complete, nothing else is written, the window
opens, and in good order `pd_error` is `None` and a message with no bracket part has no values. -/
def Obligations.NulCompletesTheMessage : Prop :=
  ∀ (i : Instr) (s : State),
    (i = .pdBeNul ∧ s.pdState = .waitBracketOrEnd) ∨ (i = .pdEndNul ∧ s.pdState = .waitEnd) →
    Completes (exec i s) fun t =>
      t.pdState = .waitOpcode ∧ t.response = .event .messageComplete ∧ t.msgOpen = true ∧
      (PdInv s → t.pdError = none ∧ (i = .pdBeNul → t.pdArgc = 0 ∧ t.pdHasString = false)) ∧
      OnlyWrites [.pdState, .msgOpen, .response] s t

/-- PD.VAL.MINUS and PD.VAL.DIGIT with fewer than 12 values: sign and first value
(42_payload_decoder.md section 3, the spec's decision D13). -/
def Obligations.FirstByteOfAnIntegerIsTaken : Prop :=
  ∀ s : State, s.pdState = .waitValue → s.nvalues ≠ 12 →
    (Completes (exec .pdValMinus s) fun t =>
      t.pdSign = .minus ∧ t.pdAcc = 0 ∧ t.pdState = .waitDigit ∧ t.response = .event .quiet ∧
      OnlyWrites [.pdSign, .pdAcc, .pdState, .response] s t) ∧
    ∀ c, isDigit c = true → Completes (exec (.pdValDigit c) s) fun t =>
      t.pdSign = .plus ∧ t.pdAcc.toInt = (c.toNat - 0x30 : Nat) ∧
      t.pdState = .waitDigitsOrCommaOrBracket ∧ t.response = .event .quiet ∧
      OnlyWrites [.pdSign, .pdAcc, .pdState, .response] s t

/-- PD.VAL.QUOTE with fewer than 12 values: the first string opens, a second one raises
`TooManyStrings` (42_payload_decoder.md section 3, the spec's decision D13). -/
def Obligations.QuoteOpensTheOnlyString : Prop :=
  ∀ s : State, s.pdState = .waitValue → s.nvalues ≠ 12 →
    (s.pdHasString = false → Completes (exec .pdValQuote s) fun t =>
      t.pdHasString = true ∧ t.pdStrlen = 0 ∧ t.pdState = .waitString ∧
      t.response = .event .quiet ∧
      OnlyWrites [.pdHasString, .pdStrlen, .pdState, .response] s t) ∧
    (s.pdHasString = true → Completes (exec .pdValQuote s) fun t =>
      PdRaised .tooManyStrings t ∧ OnlyWrites pdRaiseParts s t)

/-- The first byte of a 13th value raises `TooManyArguments`, whatever the value
(42_payload_decoder.md section 3 and R175, the spec's decision D13). -/
def Obligations.ThirteenthValueIsRefused : Prop :=
  ∀ (i : Instr) (s : State), startsValue i = true → i.WellFormed → s.pdState = .waitValue →
    s.nvalues = 12 → Completes (exec i s) fun t =>
      PdRaised .tooManyArguments t ∧ OnlyWrites pdRaiseParts s t

/-- 42_payload_decoder.md R159: the digit after a minus sign; that the value is then 0 is part of the
PD invariant, and gives the premise. -/
def Obligations.DigitAfterMinusIsTaken : Prop :=
  ∀ (s : State) (c : Byte), s.pdState = .waitDigit → isDigit c = true →
    (-32768 ≤ 10 * s.pdAcc.toInt + s.pdSign.toInt * (c.toNat - 0x30 : Nat)) →
    (10 * s.pdAcc.toInt + s.pdSign.toInt * (c.toNat - 0x30 : Nat) ≤ 32767) →
    Completes (exec (.pdDigDigit c) s) fun t =>
      t.pdAcc.toInt = 10 * s.pdAcc.toInt + s.pdSign.toInt * (c.toNat - 0x30 : Nat) ∧
      (s.pdAcc = 0 → s.pdSign = .minus → t.pdAcc.toInt = -((c.toNat - 0x30 : Nat) : Int)) ∧
      t.pdState = .waitDigitsOrCommaOrBracket ∧ t.response = .event .quiet ∧
      OnlyWrites [.pdAcc, .pdState, .response] s t

/-- PD.DCB.DIGIT: the exact value is taken when it is in the range of int16, and raises
`ValueOutOfRange` otherwise (42_payload_decoder.md section 5, the spec's decision D14). -/
def Obligations.DigitAccumulatesWithinInt16 : Prop :=
  ∀ (s : State) (c : Byte) (v : Int), s.pdState = .waitDigitsOrCommaOrBracket → isDigit c = true →
    v = 10 * s.pdAcc.toInt + s.pdSign.toInt * (c.toNat - 0x30 : Nat) →
    (-32768 ≤ v ∧ v ≤ 32767 → Completes (exec (.pdDcbDigit c) s) fun t =>
      t.pdAcc.toInt = v ∧ t.response = .event .quiet ∧ OnlyWrites [.pdAcc, .response] s t) ∧
    (v < -32768 ∨ 32767 < v → Completes (exec (.pdDcbDigit c) s) fun t =>
      PdRaised .valueOutOfRange t ∧ OnlyWrites pdRaiseParts s t)

/-- 42_payload_decoder.md R162, R163: the integer is stored at `pd_argc`, which is at most 11 there
(the PD invariant), and no other entry changes. -/
def Obligations.EndOfIntegerIsStored : Prop :=
  ∀ (i : Instr) (next : PdState) (s : State),
    (i = .pdDcbComma ∧ next = .waitValue) ∨ (i = .pdDcbRbr ∧ next = .waitEnd) →
    s.pdState = .waitDigitsOrCommaOrBracket → s.pdArgc ≤ 11 →
    Completes (exec i s) fun t =>
      t.args[s.pdArgc]? = some s.pdAcc ∧ (∀ k, k ≠ s.pdArgc → t.args[k]? = s.args[k]?) ∧
      t.pdArgc = s.pdArgc + 1 ∧ t.pdState = next ∧ t.response = .event .quiet ∧
      OnlyWrites [.args, .pdArgc, .pdState, .response] s t

/-- PD.STR.CHAR: a character is stored while there are fewer than 32; the 33rd raises
(42_payload_decoder.md section 6, the spec's decision D15). -/
def Obligations.StringCharIsStoredUpTo32 : Prop :=
  ∀ (s : State) (c : Byte), s.pdState = .waitString → isStrch c = true →
    (s.pdStrlen < 32 → Completes (exec (.pdStrChar c) s) fun t =>
      t.str.read s.pdStrlen = some c ∧ (∀ a, a ≠ s.pdStrlen → t.str.read a = s.str.read a) ∧
      t.pdStrlen = s.pdStrlen + 1 ∧ t.response = .event .quiet ∧
      OnlyWrites [.str, .pdStrlen, .response] s t) ∧
    (s.pdStrlen = 32 → Completes (exec (.pdStrChar c) s) fun t =>
      PdRaised .stringTooLong t ∧ OnlyWrites pdRaiseParts s t)

/-! ## BLK.DECODE and the reads -/

/-- BLK.DECODE in the frame window: it is exactly `pd_step` on the content and its terminator, in
order, from `WaitOpcode`, up to the first event, which always comes and is its result; it writes
nothing but PD
(43_block_operations.md section 2, the spec's decision D18). -/
def Obligations.BlkDecodeFeedsPdUpToTheFirstEvent : Prop :=
  ∀ (s : State) (p : List Byte), FxInv s → s.frameOpen = true → s.HoldsPayload p →
    ∃ (k : Nat) (e : Event) (t : State), k ≤ p.length ∧ e ≠ .quiet ∧
      feed .pdStep ((p ++ [0x00]).take (k + 1)) (s.pdGoto .waitOpcode) =
        some (firstEventLast k e, t) ∧
      exec .blkDecode s = .next t ∧ OnlyWrites pdParts s t

/-- The result of BLK.DECODE is a function of the payload alone: two states in their frame windows
with the same content give the same event and the same message output (43_block_operations.md
section 2 (c), the spec's decision D18). -/
def Obligations.BlkDecodeDependsOnThePayloadAlone : Prop :=
  ∀ (s s' t t' : State) (p : List Byte), FxInv s → FxInv s' → s.frameOpen = true →
    s'.frameOpen = true → s.HoldsPayload p → s'.HoldsPayload p →
    exec .blkDecode s = .next t → exec .blkDecode s' = .next t' →
      t.response = t'.response ∧ t.pdError = t'.pdError ∧ t.msgOpen = t'.msgOpen ∧
      (t.response = .event .messageComplete →
        t.pdOpcode = t'.pdOpcode ∧ t.pdArgc = t'.pdArgc ∧
        (∀ k, k < t.pdArgc → t.args[k]? = t'.args[k]?) ∧ t.pdHasString = t'.pdHasString ∧
        t.pdStrlen = t'.pdStrlen ∧ ∀ j, j < t.pdStrlen → t.str.read j = t'.str.read j)

/-- Outside their windows BLK.DECODE and the reads of the outputs are refused by name
(93_implementation_defined.md U3); that the model refuses is its choice (log 5). -/
def Obligations.UseOutsideAWindowIsRefused : Prop :=
  ∀ (s : State) (rest : List Request),
    (s.frameOpen = false → exec .blkDecode s = .refused .outsideFrameWindow) ∧
    (s.frameOpen = false → s.pending = .read .frameOutput :: rest →
      step s = .refused .outsideFrameWindow) ∧
    (s.msgOpen = false → s.pending = .read .messageOutput :: rest →
      step s = .refused .outsideMessageWindow)

/-- The reads of FX change nothing. In the frame window a read of the frame output delivers content,
terminator, length, flag, id and error register; in every state, in or out of the window, a read of
`fx_error` delivers that register (10_state.md sections 2 and 6, 30_encoding.md section 7,
43_block_operations.md section 1). -/
def Obligations.FrameOutputIsDelivered : Prop :=
  ∀ (s : State) (rest : List Request),
    (∀ p : List Byte, FxInv s → s.frameOpen = true → s.HoldsPayload p →
      s.pending = .read .frameOutput :: rest →
      Completes (step s) fun t =>
        t.response = .frame (p ++ [0x00]) p.length s.fxHasId s.fxId none ∧ t.pending = rest ∧
        OnlyWrites [.response, .pending] s t) ∧
    (s.pending = .read .fxError :: rest →
      Completes (step s) fun t =>
        t.response = .status s.fxError ∧ t.pending = rest ∧ OnlyWrites [.response, .pending] s t)

/-- The reads of PD change nothing. In the message window a read of the message output delivers the
opcode, the integers in use, the string and the counts; in every state, in or out of the window, a
read of `pd_error` delivers that register (10_state.md sections 3 and 6, 30_encoding.md section 7,
43_block_operations.md section 1). -/
def Obligations.MessageOutputIsDelivered : Prop :=
  ∀ (s : State) (rest : List Request),
    (PdInv s → s.msgOpen = true → s.pending = .read .messageOutput :: rest →
      Completes (step s) fun t =>
        (∃ args str, t.response =
            .message s.pdOpcode args s.pdArgc s.pdHasString str s.pdStrlen none ∧
          args.length = s.pdArgc ∧ (∀ k, k < s.pdArgc → args[k]? = s.args[k]?) ∧
          str.length = s.pdStrlen ∧ ∀ j, j < s.pdStrlen → str[j]? = s.str.read j) ∧
        t.pending = rest ∧ OnlyWrites [.response, .pending] s t) ∧
    (s.pending = .read .pdError :: rest →
      Completes (step s) fun t =>
        t.response = .status s.pdError ∧ t.pending = rest ∧ OnlyWrites [.response, .pending] s t)

/-! ## Invariants and whole-machine rules -/

/-- Every step keeps the two byte spaces in canonical form and within their elements. The bounds, 59 and
32 elements, are those of 20_memory.md sections 1 and 3 (the spec's decision D26); the canonical form,
cells at strictly rising indices, is the model's choice (log 8). -/
def Obligations.ByteSpacesStayCanonical : Prop :=
  ∀ s t : State, s.payload.wf Config.payloadCap = true → s.str.wf Config.maxString = true →
    step s = .next t →
      t.payload.wf Config.payloadCap = true ∧ t.str.wf Config.maxString = true

/-- Every step keeps FX in good order: the bounds, the written and unreserved content, the checksum
of exactly the covered bytes, the verified checksum past the comparison (10_state.md section 8). The
canonical form of PAYLOAD and the frame window in it are the model's (logs 8 and 4). -/
def Obligations.EveryStepKeepsFxInOrder : Prop :=
  ∀ s t : State, FxInv s → step s = .next t → FxInv t

/-- Every step keeps PD in good order: the counts, the 12-value limit, the written string
(10_state.md section 8). The canonical form of STR and the message window in it are the model's
(logs 8 and 4). -/
def Obligations.EveryStepKeepsPdInOrder : Prop :=
  ∀ s t : State, PdInv s → step s = .next t → PdInv t

/-- From a state in good order no step faults, and a step is refused exactly when the host misuses
the block (60_exceptions.md section 5, 93_implementation_defined.md part 1); that these are refused is
the model's choice (logs 5, 11, 12 and 13). -/
def Obligations.OnlyMisuseStopsTheBlock : Prop :=
  ∀ s : State, BlockInv s →
    (∀ r, step s ≠ .fault r) ∧ ((∃ r, step s = .refused r) ↔ s.misused = true)

/-- `fx_step` is total: with the length in bounds it answers every byte in every state with one event
of FX, an event other than `None` leaves `AwaitStart`, an error is also in `fx_error`, and nothing
but FX is written (41_frame_extractor.md section 7). -/
def Obligations.FxStepIsTotal : Prop :=
  ∀ (s : State) (c : Byte), s.fxLen ≤ 58 →
    Completes (step (s.present (.fxStep c))) fun t =>
      (∃ e, t.response = .event e ∧ e ≠ .messageComplete ∧ (e ≠ .quiet → t.fxState = .awaitStart) ∧
        ∀ x, e = .error x → t.fxError = some x ∧ x.isFx = true) ∧
      OnlyWrites fxParts s t

/-- `pd_step` is total: in good order it answers every byte in every state with one event of PD, an
event other than `None` leaves `WaitOpcode`, an error is also in `pd_error`, and nothing but PD is
written (42_payload_decoder.md section 9). -/
def Obligations.PdStepIsTotal : Prop :=
  ∀ (s : State) (c : Byte), PdInv s →
    Completes (step (s.present (.pdStep c))) fun t =>
      (∃ e, t.response = .event e ∧ e ≠ .frameComplete ∧ (e ≠ .quiet → t.pdState = .waitOpcode) ∧
        ∀ x, e = .error x → t.pdError = some x ∧ x.isPd = true) ∧
      OnlyWrites pdParts s t

/-- Only `fx_step` and BLK.RESET write FX, its accumulator included, and only `pd_step`, BLK.DECODE
and BLK.RESET write PD (10_state.md section 1, 30_encoding.md section 7). -/
def Obligations.EachMachineIsWrittenByItsOwnCalls : Prop :=
  ∀ s t : State, step s = .next t →
    ((∀ c, s.pending.head? ≠ some (.call (.fxStep c))) → s.pending.head? ≠ some (.call .blkReset) →
      ∀ p ∈ fxParts, p ≠ .response → p.Same s t) ∧
    ((∀ c, s.pending.head? ≠ some (.call (.pdStep c))) → s.pending.head? ≠ some (.call .blkReset) →
      s.pending.head? ≠ some (.call .blkDecode) → ∀ p ∈ pdParts, p ≠ .response → p.Same s t)

/-- The windows: the frame window opens only with `FrameComplete` and, in good order, closes only at
a start marker or BLK.RESET; the message window opens only with `MessageComplete` and closes only at
an accepted opcode, an error of PD or BLK.RESET (20_memory.md section 6, 60_exceptions.md section 2;
the window bits are the model's, log 4). -/
def Obligations.WindowsOpenOnCompletion : Prop :=
  ∀ s t : State, FxInv s → step s = .next t →
    (s.frameOpen = false → t.frameOpen = true → t.response = .event .frameComplete) ∧
    (s.frameOpen = true → t.frameOpen = false →
      s.pending.head? = some (.call (.fxStep 0x23)) ∨ s.pending.head? = some (.call .blkReset)) ∧
    (s.msgOpen = false → t.msgOpen = true → t.response = .event .messageComplete) ∧
    (s.msgOpen = true → t.msgOpen = false →
      (∃ e, t.pdError = some e ∧ t.response = .event (.error e)) ∨ t.pdState = .waitBracketOrEnd ∨
      s.pending.head? = some (.call .blkReset))

/-! ## The two languages -/

/-- Every frame with a sequence id and its checksum completes at its last byte and not before, from
any state in `AwaitStart`, and delivers its payload and id (41_frame_extractor.md section 7). -/
def Obligations.EveryFormAFrameIsDelivered : Prop :=
  ∀ (s : State) (p : List Byte) (id : Byte), s.fxState = .awaitStart → IsPayload p →
    ∃ t, feed .fxStep (frameA p id) s = some (firstEventLast (p.length + 7) .frameComplete, t) ∧
      t.DeliversFrame p (some id) ∧ OnlyWrites fxParts s t

/-- Every frame with dummy metadata completes at its last byte and not before, whatever its payload
bytes, and delivers its payload with no id (41_frame_extractor.md section 7). -/
def Obligations.EveryDummyFrameIsDelivered : Prop :=
  ∀ (s : State) (p : List Byte), s.fxState = .awaitStart → IsPayload p →
    ∃ t, feed .fxStep (frameB p) s = some (firstEventLast (p.length + 7) .frameComplete, t) ∧
      t.DeliversFrame p none ∧ OnlyWrites fxParts s t

/-- Nothing else completes: bytes that begin with a start marker and give `FrameComplete` at the last
byte, with no earlier event, are one of the two frames (41_frame_extractor.md section 7). -/
def Obligations.OnlyFramesComplete : Prop :=
  ∀ (s t : State) (bytes : List Byte) (n : Nat), s.fxState = .awaitStart →
    bytes.head? = some 0x23 → feed .fxStep bytes s = some (firstEventLast n .frameComplete, t) →
    ∃ p, IsPayload p ∧ ((∃ id, bytes = frameA p id) ∨ bytes = frameB p)

/-- A frame with an id in which exactly one covered byte after the marker was changed does not
complete at its last byte without an earlier event (70_reset_and_hazards.md section 3, R264). -/
def Obligations.OneCorruptedCoveredByteIsDetected : Prop :=
  ∀ (s t : State) (p : List Byte) (id : Byte) (k : Nat) (c : Byte), s.fxState = .awaitStart →
    IsPayload p → 1 ≤ k → k ≤ p.length + 3 → (frameA p id)[k]? ≠ some c →
    feed .fxStep ((frameA p id).set k c) s ≠ some (firstEventLast (p.length + 7) .frameComplete, t)

/-- Resynchronisation: from `AwaitStart`, where every error leaves FX, bytes other than a start marker
give no event, and the frame after them, of either form, is delivered (41_frame_extractor.md R148). -/
def Obligations.FrameAfterNoiseIsDelivered : Prop :=
  ∀ (s : State) (noise p : List Byte), s.fxState = .awaitStart →
    (∀ c ∈ noise, c ≠ 0x23) → IsPayload p →
    (∀ id : Byte, ∃ t, feed .fxStep (noise ++ frameA p id) s =
        some (firstEventLast (noise.length + p.length + 7) .frameComplete, t) ∧
      t.DeliversFrame p (some id)) ∧
    ∃ t, feed .fxStep (noise ++ frameB p) s =
        some (firstEventLast (noise.length + p.length + 7) .frameComplete, t) ∧
      t.DeliversFrame p none

/-- Every message of the grammar within the limits completes at its last byte and not before, from
any state in `WaitOpcode`, and delivers its opcode, its integers in order and its string
(42_payload_decoder.md section 9). -/
def Obligations.EveryMessageIsDelivered : Prop :=
  ∀ (s : State) (opcode : Byte) (values : List MsgValue), s.pdState = .waitOpcode →
    IsMessage opcode values →
    ∃ n t, feed .pdStep (message opcode values) s =
        some (firstEventLast n .messageComplete, t) ∧ n + 1 = (message opcode values).length ∧
      t.DeliversMessage opcode values ∧ OnlyWrites pdParts s t

/-- Nothing else completes: bytes that give `MessageComplete` at the last byte, with no earlier event,
from any state in `WaitOpcode`, are a message of the grammar within the limits
(42_payload_decoder.md section 9). -/
def Obligations.OnlyMessagesComplete : Prop :=
  ∀ (s t : State) (bytes : List Byte) (n : Nat), s.pdState = .waitOpcode →
    feed .pdStep bytes s = some (firstEventLast n .messageComplete, t) →
    ∃ opcode values, IsMessage opcode values ∧ bytes = message opcode values
end

