-- ==== Sys2Proof/Laws/State.lean ====
section
/-! SUPPORT. The fields of a state after each named update, one lemma per field per update. -/

namespace Sys2Proof.Machine

/-! The Checksum operations are updates of one accumulator. -/

@[simp] theorem State.crcStart_eq (s : State) (acc : Accumulator) (seed : Byte) :
    s.crcStart acc seed = s.setCrc acc seed := rfl
@[simp] theorem State.crcUpdate_eq (s : State) (acc : Accumulator) (b : Byte) :
    s.crcUpdate acc b = s.setCrc acc (crcNext (s.crc acc) b) := rfl
@[simp] theorem State.crcUpdaten_eq (s : State) (acc : Accumulator) (bytes : List Byte) :
    s.crcUpdaten acc bytes = s.setCrc acc (crcOver (s.crc acc) bytes) := rfl
@[simp] theorem State.crcFinalize_eq (s : State) (acc : Accumulator) :
    s.crcFinalize acc = s.crc acc := rfl
@[simp] theorem State.crc_fx (s : State) : s.crc .fx = s.fxCrc := rfl
@[simp] theorem State.crc_host (s : State) : s.crc .host = s.hostCrc := rfl

/-! `fxGoto` -/

@[simp] theorem State.fxGoto_fxState (s : State) (st : FxState) : (s.fxGoto st).fxState = st := rfl
@[simp] theorem State.fxGoto_fxLen (s : State) (st : FxState) : (s.fxGoto st).fxLen = s.fxLen := rfl
@[simp] theorem State.fxGoto_payload (s : State) (st : FxState) : (s.fxGoto st).payload = s.payload := rfl
@[simp] theorem State.fxGoto_fxHasId (s : State) (st : FxState) : (s.fxGoto st).fxHasId = s.fxHasId := rfl
@[simp] theorem State.fxGoto_fxId (s : State) (st : FxState) : (s.fxGoto st).fxId = s.fxId := rfl
@[simp] theorem State.fxGoto_fxClaimed (s : State) (st : FxState) : (s.fxGoto st).fxClaimed = s.fxClaimed := rfl
@[simp] theorem State.fxGoto_fxCrc (s : State) (st : FxState) : (s.fxGoto st).fxCrc = s.fxCrc := rfl
@[simp] theorem State.fxGoto_fxError (s : State) (st : FxState) : (s.fxGoto st).fxError = s.fxError := rfl
@[simp] theorem State.fxGoto_pdState (s : State) (st : FxState) : (s.fxGoto st).pdState = s.pdState := rfl
@[simp] theorem State.fxGoto_pdOpcode (s : State) (st : FxState) : (s.fxGoto st).pdOpcode = s.pdOpcode := rfl
@[simp] theorem State.fxGoto_args (s : State) (st : FxState) : (s.fxGoto st).args = s.args := rfl
@[simp] theorem State.fxGoto_pdArgc (s : State) (st : FxState) : (s.fxGoto st).pdArgc = s.pdArgc := rfl
@[simp] theorem State.fxGoto_str (s : State) (st : FxState) : (s.fxGoto st).str = s.str := rfl
@[simp] theorem State.fxGoto_pdStrlen (s : State) (st : FxState) : (s.fxGoto st).pdStrlen = s.pdStrlen := rfl
@[simp] theorem State.fxGoto_pdHasString (s : State) (st : FxState) : (s.fxGoto st).pdHasString = s.pdHasString := rfl
@[simp] theorem State.fxGoto_pdAcc (s : State) (st : FxState) : (s.fxGoto st).pdAcc = s.pdAcc := rfl
@[simp] theorem State.fxGoto_pdSign (s : State) (st : FxState) : (s.fxGoto st).pdSign = s.pdSign := rfl
@[simp] theorem State.fxGoto_pdError (s : State) (st : FxState) : (s.fxGoto st).pdError = s.pdError := rfl
@[simp] theorem State.fxGoto_frameOpen (s : State) (st : FxState) : (s.fxGoto st).frameOpen = s.frameOpen := rfl
@[simp] theorem State.fxGoto_msgOpen (s : State) (st : FxState) : (s.fxGoto st).msgOpen = s.msgOpen := rfl
@[simp] theorem State.fxGoto_hostCrc (s : State) (st : FxState) : (s.fxGoto st).hostCrc = s.hostCrc := rfl
@[simp] theorem State.fxGoto_response (s : State) (st : FxState) : (s.fxGoto st).response = s.response := rfl
@[simp] theorem State.fxGoto_pending (s : State) (st : FxState) : (s.fxGoto st).pending = s.pending := rfl
@[simp] theorem State.fxGoto_freeCount (s : State) (st : FxState) : (s.fxGoto st).freeCount = s.freeCount := rfl

/-! `pdGoto` -/

@[simp] theorem State.pdGoto_fxState (s : State) (st : PdState) : (s.pdGoto st).fxState = s.fxState := rfl
@[simp] theorem State.pdGoto_fxLen (s : State) (st : PdState) : (s.pdGoto st).fxLen = s.fxLen := rfl
@[simp] theorem State.pdGoto_payload (s : State) (st : PdState) : (s.pdGoto st).payload = s.payload := rfl
@[simp] theorem State.pdGoto_fxHasId (s : State) (st : PdState) : (s.pdGoto st).fxHasId = s.fxHasId := rfl
@[simp] theorem State.pdGoto_fxId (s : State) (st : PdState) : (s.pdGoto st).fxId = s.fxId := rfl
@[simp] theorem State.pdGoto_fxClaimed (s : State) (st : PdState) : (s.pdGoto st).fxClaimed = s.fxClaimed := rfl
@[simp] theorem State.pdGoto_fxCrc (s : State) (st : PdState) : (s.pdGoto st).fxCrc = s.fxCrc := rfl
@[simp] theorem State.pdGoto_fxError (s : State) (st : PdState) : (s.pdGoto st).fxError = s.fxError := rfl
@[simp] theorem State.pdGoto_pdState (s : State) (st : PdState) : (s.pdGoto st).pdState = st := rfl
@[simp] theorem State.pdGoto_pdOpcode (s : State) (st : PdState) : (s.pdGoto st).pdOpcode = s.pdOpcode := rfl
@[simp] theorem State.pdGoto_args (s : State) (st : PdState) : (s.pdGoto st).args = s.args := rfl
@[simp] theorem State.pdGoto_pdArgc (s : State) (st : PdState) : (s.pdGoto st).pdArgc = s.pdArgc := rfl
@[simp] theorem State.pdGoto_str (s : State) (st : PdState) : (s.pdGoto st).str = s.str := rfl
@[simp] theorem State.pdGoto_pdStrlen (s : State) (st : PdState) : (s.pdGoto st).pdStrlen = s.pdStrlen := rfl
@[simp] theorem State.pdGoto_pdHasString (s : State) (st : PdState) : (s.pdGoto st).pdHasString = s.pdHasString := rfl
@[simp] theorem State.pdGoto_pdAcc (s : State) (st : PdState) : (s.pdGoto st).pdAcc = s.pdAcc := rfl
@[simp] theorem State.pdGoto_pdSign (s : State) (st : PdState) : (s.pdGoto st).pdSign = s.pdSign := rfl
@[simp] theorem State.pdGoto_pdError (s : State) (st : PdState) : (s.pdGoto st).pdError = s.pdError := rfl
@[simp] theorem State.pdGoto_frameOpen (s : State) (st : PdState) : (s.pdGoto st).frameOpen = s.frameOpen := rfl
@[simp] theorem State.pdGoto_msgOpen (s : State) (st : PdState) : (s.pdGoto st).msgOpen = s.msgOpen := rfl
@[simp] theorem State.pdGoto_hostCrc (s : State) (st : PdState) : (s.pdGoto st).hostCrc = s.hostCrc := rfl
@[simp] theorem State.pdGoto_response (s : State) (st : PdState) : (s.pdGoto st).response = s.response := rfl
@[simp] theorem State.pdGoto_pending (s : State) (st : PdState) : (s.pdGoto st).pending = s.pending := rfl
@[simp] theorem State.pdGoto_freeCount (s : State) (st : PdState) : (s.pdGoto st).freeCount = s.freeCount := rfl

/-! `respond` -/

@[simp] theorem State.respond_fxState (s : State) (r : Response) : (s.respond r).fxState = s.fxState := rfl
@[simp] theorem State.respond_fxLen (s : State) (r : Response) : (s.respond r).fxLen = s.fxLen := rfl
@[simp] theorem State.respond_payload (s : State) (r : Response) : (s.respond r).payload = s.payload := rfl
@[simp] theorem State.respond_fxHasId (s : State) (r : Response) : (s.respond r).fxHasId = s.fxHasId := rfl
@[simp] theorem State.respond_fxId (s : State) (r : Response) : (s.respond r).fxId = s.fxId := rfl
@[simp] theorem State.respond_fxClaimed (s : State) (r : Response) : (s.respond r).fxClaimed = s.fxClaimed := rfl
@[simp] theorem State.respond_fxCrc (s : State) (r : Response) : (s.respond r).fxCrc = s.fxCrc := rfl
@[simp] theorem State.respond_fxError (s : State) (r : Response) : (s.respond r).fxError = s.fxError := rfl
@[simp] theorem State.respond_pdState (s : State) (r : Response) : (s.respond r).pdState = s.pdState := rfl
@[simp] theorem State.respond_pdOpcode (s : State) (r : Response) : (s.respond r).pdOpcode = s.pdOpcode := rfl
@[simp] theorem State.respond_args (s : State) (r : Response) : (s.respond r).args = s.args := rfl
@[simp] theorem State.respond_pdArgc (s : State) (r : Response) : (s.respond r).pdArgc = s.pdArgc := rfl
@[simp] theorem State.respond_str (s : State) (r : Response) : (s.respond r).str = s.str := rfl
@[simp] theorem State.respond_pdStrlen (s : State) (r : Response) : (s.respond r).pdStrlen = s.pdStrlen := rfl
@[simp] theorem State.respond_pdHasString (s : State) (r : Response) : (s.respond r).pdHasString = s.pdHasString := rfl
@[simp] theorem State.respond_pdAcc (s : State) (r : Response) : (s.respond r).pdAcc = s.pdAcc := rfl
@[simp] theorem State.respond_pdSign (s : State) (r : Response) : (s.respond r).pdSign = s.pdSign := rfl
@[simp] theorem State.respond_pdError (s : State) (r : Response) : (s.respond r).pdError = s.pdError := rfl
@[simp] theorem State.respond_frameOpen (s : State) (r : Response) : (s.respond r).frameOpen = s.frameOpen := rfl
@[simp] theorem State.respond_msgOpen (s : State) (r : Response) : (s.respond r).msgOpen = s.msgOpen := rfl
@[simp] theorem State.respond_hostCrc (s : State) (r : Response) : (s.respond r).hostCrc = s.hostCrc := rfl
@[simp] theorem State.respond_response (s : State) (r : Response) : (s.respond r).response = r := rfl
@[simp] theorem State.respond_pending (s : State) (r : Response) : (s.respond r).pending = s.pending := rfl
@[simp] theorem State.respond_freeCount (s : State) (r : Response) : (s.respond r).freeCount = s.freeCount := rfl

/-! `emit` -/

@[simp] theorem State.emit_fxState (s : State) (e : Event) : (s.emit e).fxState = s.fxState := rfl
@[simp] theorem State.emit_fxLen (s : State) (e : Event) : (s.emit e).fxLen = s.fxLen := rfl
@[simp] theorem State.emit_payload (s : State) (e : Event) : (s.emit e).payload = s.payload := rfl
@[simp] theorem State.emit_fxHasId (s : State) (e : Event) : (s.emit e).fxHasId = s.fxHasId := rfl
@[simp] theorem State.emit_fxId (s : State) (e : Event) : (s.emit e).fxId = s.fxId := rfl
@[simp] theorem State.emit_fxClaimed (s : State) (e : Event) : (s.emit e).fxClaimed = s.fxClaimed := rfl
@[simp] theorem State.emit_fxCrc (s : State) (e : Event) : (s.emit e).fxCrc = s.fxCrc := rfl
@[simp] theorem State.emit_fxError (s : State) (e : Event) : (s.emit e).fxError = s.fxError := rfl
@[simp] theorem State.emit_pdState (s : State) (e : Event) : (s.emit e).pdState = s.pdState := rfl
@[simp] theorem State.emit_pdOpcode (s : State) (e : Event) : (s.emit e).pdOpcode = s.pdOpcode := rfl
@[simp] theorem State.emit_args (s : State) (e : Event) : (s.emit e).args = s.args := rfl
@[simp] theorem State.emit_pdArgc (s : State) (e : Event) : (s.emit e).pdArgc = s.pdArgc := rfl
@[simp] theorem State.emit_str (s : State) (e : Event) : (s.emit e).str = s.str := rfl
@[simp] theorem State.emit_pdStrlen (s : State) (e : Event) : (s.emit e).pdStrlen = s.pdStrlen := rfl
@[simp] theorem State.emit_pdHasString (s : State) (e : Event) : (s.emit e).pdHasString = s.pdHasString := rfl
@[simp] theorem State.emit_pdAcc (s : State) (e : Event) : (s.emit e).pdAcc = s.pdAcc := rfl
@[simp] theorem State.emit_pdSign (s : State) (e : Event) : (s.emit e).pdSign = s.pdSign := rfl
@[simp] theorem State.emit_pdError (s : State) (e : Event) : (s.emit e).pdError = s.pdError := rfl
@[simp] theorem State.emit_frameOpen (s : State) (e : Event) : (s.emit e).frameOpen = s.frameOpen := rfl
@[simp] theorem State.emit_msgOpen (s : State) (e : Event) : (s.emit e).msgOpen = s.msgOpen := rfl
@[simp] theorem State.emit_hostCrc (s : State) (e : Event) : (s.emit e).hostCrc = s.hostCrc := rfl
@[simp] theorem State.emit_response (s : State) (e : Event) : (s.emit e).response = .event e := rfl
@[simp] theorem State.emit_pending (s : State) (e : Event) : (s.emit e).pending = s.pending := rfl
@[simp] theorem State.emit_freeCount (s : State) (e : Event) : (s.emit e).freeCount = s.freeCount := rfl

/-! `clearFrame` -/

@[simp] theorem State.clearFrame_fxState (s : State) : s.clearFrame.fxState = s.fxState := rfl
@[simp] theorem State.clearFrame_fxLen (s : State) : s.clearFrame.fxLen = 0 := rfl
@[simp] theorem State.clearFrame_payload (s : State) : s.clearFrame.payload = s.payload := rfl
@[simp] theorem State.clearFrame_fxHasId (s : State) : s.clearFrame.fxHasId = false := rfl
@[simp] theorem State.clearFrame_fxId (s : State) : s.clearFrame.fxId = 0 := rfl
@[simp] theorem State.clearFrame_fxClaimed (s : State) : s.clearFrame.fxClaimed = 0 := rfl
@[simp] theorem State.clearFrame_fxCrc (s : State) : s.clearFrame.fxCrc = s.fxCrc := rfl
@[simp] theorem State.clearFrame_fxError (s : State) : s.clearFrame.fxError = none := rfl
@[simp] theorem State.clearFrame_pdState (s : State) : s.clearFrame.pdState = s.pdState := rfl
@[simp] theorem State.clearFrame_pdOpcode (s : State) : s.clearFrame.pdOpcode = s.pdOpcode := rfl
@[simp] theorem State.clearFrame_args (s : State) : s.clearFrame.args = s.args := rfl
@[simp] theorem State.clearFrame_pdArgc (s : State) : s.clearFrame.pdArgc = s.pdArgc := rfl
@[simp] theorem State.clearFrame_str (s : State) : s.clearFrame.str = s.str := rfl
@[simp] theorem State.clearFrame_pdStrlen (s : State) : s.clearFrame.pdStrlen = s.pdStrlen := rfl
@[simp] theorem State.clearFrame_pdHasString (s : State) : s.clearFrame.pdHasString = s.pdHasString := rfl
@[simp] theorem State.clearFrame_pdAcc (s : State) : s.clearFrame.pdAcc = s.pdAcc := rfl
@[simp] theorem State.clearFrame_pdSign (s : State) : s.clearFrame.pdSign = s.pdSign := rfl
@[simp] theorem State.clearFrame_pdError (s : State) : s.clearFrame.pdError = s.pdError := rfl
@[simp] theorem State.clearFrame_frameOpen (s : State) : s.clearFrame.frameOpen = false := rfl
@[simp] theorem State.clearFrame_msgOpen (s : State) : s.clearFrame.msgOpen = s.msgOpen := rfl
@[simp] theorem State.clearFrame_hostCrc (s : State) : s.clearFrame.hostCrc = s.hostCrc := rfl
@[simp] theorem State.clearFrame_response (s : State) : s.clearFrame.response = s.response := rfl
@[simp] theorem State.clearFrame_pending (s : State) : s.clearFrame.pending = s.pending := rfl
@[simp] theorem State.clearFrame_freeCount (s : State) : s.clearFrame.freeCount = s.freeCount := rfl

/-! `clearMessage` -/

@[simp] theorem State.clearMessage_fxState (s : State) (c : Byte) : (s.clearMessage c).fxState = s.fxState := rfl
@[simp] theorem State.clearMessage_fxLen (s : State) (c : Byte) : (s.clearMessage c).fxLen = s.fxLen := rfl
@[simp] theorem State.clearMessage_payload (s : State) (c : Byte) : (s.clearMessage c).payload = s.payload := rfl
@[simp] theorem State.clearMessage_fxHasId (s : State) (c : Byte) : (s.clearMessage c).fxHasId = s.fxHasId := rfl
@[simp] theorem State.clearMessage_fxId (s : State) (c : Byte) : (s.clearMessage c).fxId = s.fxId := rfl
@[simp] theorem State.clearMessage_fxClaimed (s : State) (c : Byte) : (s.clearMessage c).fxClaimed = s.fxClaimed := rfl
@[simp] theorem State.clearMessage_fxCrc (s : State) (c : Byte) : (s.clearMessage c).fxCrc = s.fxCrc := rfl
@[simp] theorem State.clearMessage_fxError (s : State) (c : Byte) : (s.clearMessage c).fxError = s.fxError := rfl
@[simp] theorem State.clearMessage_pdState (s : State) (c : Byte) : (s.clearMessage c).pdState = s.pdState := rfl
@[simp] theorem State.clearMessage_pdOpcode (s : State) (c : Byte) : (s.clearMessage c).pdOpcode = c := rfl
@[simp] theorem State.clearMessage_args (s : State) (c : Byte) : (s.clearMessage c).args = s.args := rfl
@[simp] theorem State.clearMessage_pdArgc (s : State) (c : Byte) : (s.clearMessage c).pdArgc = 0 := rfl
@[simp] theorem State.clearMessage_str (s : State) (c : Byte) : (s.clearMessage c).str = s.str := rfl
@[simp] theorem State.clearMessage_pdStrlen (s : State) (c : Byte) : (s.clearMessage c).pdStrlen = 0 := rfl
@[simp] theorem State.clearMessage_pdHasString (s : State) (c : Byte) : (s.clearMessage c).pdHasString = false := rfl
@[simp] theorem State.clearMessage_pdAcc (s : State) (c : Byte) : (s.clearMessage c).pdAcc = 0 := rfl
@[simp] theorem State.clearMessage_pdSign (s : State) (c : Byte) : (s.clearMessage c).pdSign = .plus := rfl
@[simp] theorem State.clearMessage_pdError (s : State) (c : Byte) : (s.clearMessage c).pdError = none := rfl
@[simp] theorem State.clearMessage_frameOpen (s : State) (c : Byte) : (s.clearMessage c).frameOpen = s.frameOpen := rfl
@[simp] theorem State.clearMessage_msgOpen (s : State) (c : Byte) : (s.clearMessage c).msgOpen = false := rfl
@[simp] theorem State.clearMessage_hostCrc (s : State) (c : Byte) : (s.clearMessage c).hostCrc = s.hostCrc := rfl
@[simp] theorem State.clearMessage_response (s : State) (c : Byte) : (s.clearMessage c).response = s.response := rfl
@[simp] theorem State.clearMessage_pending (s : State) (c : Byte) : (s.clearMessage c).pending = s.pending := rfl
@[simp] theorem State.clearMessage_freeCount (s : State) (c : Byte) : (s.clearMessage c).freeCount = s.freeCount := rfl

/-! `setValue` -/

@[simp] theorem State.setValue_fxState (s : State) (g : Sign) (v : Int16Bits) : (s.setValue g v).fxState = s.fxState := rfl
@[simp] theorem State.setValue_fxLen (s : State) (g : Sign) (v : Int16Bits) : (s.setValue g v).fxLen = s.fxLen := rfl
@[simp] theorem State.setValue_payload (s : State) (g : Sign) (v : Int16Bits) : (s.setValue g v).payload = s.payload := rfl
@[simp] theorem State.setValue_fxHasId (s : State) (g : Sign) (v : Int16Bits) : (s.setValue g v).fxHasId = s.fxHasId := rfl
@[simp] theorem State.setValue_fxId (s : State) (g : Sign) (v : Int16Bits) : (s.setValue g v).fxId = s.fxId := rfl
@[simp] theorem State.setValue_fxClaimed (s : State) (g : Sign) (v : Int16Bits) : (s.setValue g v).fxClaimed = s.fxClaimed := rfl
@[simp] theorem State.setValue_fxCrc (s : State) (g : Sign) (v : Int16Bits) : (s.setValue g v).fxCrc = s.fxCrc := rfl
@[simp] theorem State.setValue_fxError (s : State) (g : Sign) (v : Int16Bits) : (s.setValue g v).fxError = s.fxError := rfl
@[simp] theorem State.setValue_pdState (s : State) (g : Sign) (v : Int16Bits) : (s.setValue g v).pdState = s.pdState := rfl
@[simp] theorem State.setValue_pdOpcode (s : State) (g : Sign) (v : Int16Bits) : (s.setValue g v).pdOpcode = s.pdOpcode := rfl
@[simp] theorem State.setValue_args (s : State) (g : Sign) (v : Int16Bits) : (s.setValue g v).args = s.args := rfl
@[simp] theorem State.setValue_pdArgc (s : State) (g : Sign) (v : Int16Bits) : (s.setValue g v).pdArgc = s.pdArgc := rfl
@[simp] theorem State.setValue_str (s : State) (g : Sign) (v : Int16Bits) : (s.setValue g v).str = s.str := rfl
@[simp] theorem State.setValue_pdStrlen (s : State) (g : Sign) (v : Int16Bits) : (s.setValue g v).pdStrlen = s.pdStrlen := rfl
@[simp] theorem State.setValue_pdHasString (s : State) (g : Sign) (v : Int16Bits) : (s.setValue g v).pdHasString = s.pdHasString := rfl
@[simp] theorem State.setValue_pdAcc (s : State) (g : Sign) (v : Int16Bits) : (s.setValue g v).pdAcc = v := rfl
@[simp] theorem State.setValue_pdSign (s : State) (g : Sign) (v : Int16Bits) : (s.setValue g v).pdSign = g := rfl
@[simp] theorem State.setValue_pdError (s : State) (g : Sign) (v : Int16Bits) : (s.setValue g v).pdError = s.pdError := rfl
@[simp] theorem State.setValue_frameOpen (s : State) (g : Sign) (v : Int16Bits) : (s.setValue g v).frameOpen = s.frameOpen := rfl
@[simp] theorem State.setValue_msgOpen (s : State) (g : Sign) (v : Int16Bits) : (s.setValue g v).msgOpen = s.msgOpen := rfl
@[simp] theorem State.setValue_hostCrc (s : State) (g : Sign) (v : Int16Bits) : (s.setValue g v).hostCrc = s.hostCrc := rfl
@[simp] theorem State.setValue_response (s : State) (g : Sign) (v : Int16Bits) : (s.setValue g v).response = s.response := rfl
@[simp] theorem State.setValue_pending (s : State) (g : Sign) (v : Int16Bits) : (s.setValue g v).pending = s.pending := rfl
@[simp] theorem State.setValue_freeCount (s : State) (g : Sign) (v : Int16Bits) : (s.setValue g v).freeCount = s.freeCount := rfl

/-! `openString` -/

@[simp] theorem State.openString_fxState (s : State) : s.openString.fxState = s.fxState := rfl
@[simp] theorem State.openString_fxLen (s : State) : s.openString.fxLen = s.fxLen := rfl
@[simp] theorem State.openString_payload (s : State) : s.openString.payload = s.payload := rfl
@[simp] theorem State.openString_fxHasId (s : State) : s.openString.fxHasId = s.fxHasId := rfl
@[simp] theorem State.openString_fxId (s : State) : s.openString.fxId = s.fxId := rfl
@[simp] theorem State.openString_fxClaimed (s : State) : s.openString.fxClaimed = s.fxClaimed := rfl
@[simp] theorem State.openString_fxCrc (s : State) : s.openString.fxCrc = s.fxCrc := rfl
@[simp] theorem State.openString_fxError (s : State) : s.openString.fxError = s.fxError := rfl
@[simp] theorem State.openString_pdState (s : State) : s.openString.pdState = s.pdState := rfl
@[simp] theorem State.openString_pdOpcode (s : State) : s.openString.pdOpcode = s.pdOpcode := rfl
@[simp] theorem State.openString_args (s : State) : s.openString.args = s.args := rfl
@[simp] theorem State.openString_pdArgc (s : State) : s.openString.pdArgc = s.pdArgc := rfl
@[simp] theorem State.openString_str (s : State) : s.openString.str = s.str := rfl
@[simp] theorem State.openString_pdStrlen (s : State) : s.openString.pdStrlen = 0 := rfl
@[simp] theorem State.openString_pdHasString (s : State) : s.openString.pdHasString = true := rfl
@[simp] theorem State.openString_pdAcc (s : State) : s.openString.pdAcc = s.pdAcc := rfl
@[simp] theorem State.openString_pdSign (s : State) : s.openString.pdSign = s.pdSign := rfl
@[simp] theorem State.openString_pdError (s : State) : s.openString.pdError = s.pdError := rfl
@[simp] theorem State.openString_frameOpen (s : State) : s.openString.frameOpen = s.frameOpen := rfl
@[simp] theorem State.openString_msgOpen (s : State) : s.openString.msgOpen = s.msgOpen := rfl
@[simp] theorem State.openString_hostCrc (s : State) : s.openString.hostCrc = s.hostCrc := rfl
@[simp] theorem State.openString_response (s : State) : s.openString.response = s.response := rfl
@[simp] theorem State.openString_pending (s : State) : s.openString.pending = s.pending := rfl
@[simp] theorem State.openString_freeCount (s : State) : s.openString.freeCount = s.freeCount := rfl

/-! `openFrame` -/

@[simp] theorem State.openFrame_fxState (s : State) : s.openFrame.fxState = s.fxState := rfl
@[simp] theorem State.openFrame_fxLen (s : State) : s.openFrame.fxLen = s.fxLen := rfl
@[simp] theorem State.openFrame_payload (s : State) : s.openFrame.payload = s.payload := rfl
@[simp] theorem State.openFrame_fxHasId (s : State) : s.openFrame.fxHasId = s.fxHasId := rfl
@[simp] theorem State.openFrame_fxId (s : State) : s.openFrame.fxId = s.fxId := rfl
@[simp] theorem State.openFrame_fxClaimed (s : State) : s.openFrame.fxClaimed = s.fxClaimed := rfl
@[simp] theorem State.openFrame_fxCrc (s : State) : s.openFrame.fxCrc = s.fxCrc := rfl
@[simp] theorem State.openFrame_fxError (s : State) : s.openFrame.fxError = s.fxError := rfl
@[simp] theorem State.openFrame_pdState (s : State) : s.openFrame.pdState = s.pdState := rfl
@[simp] theorem State.openFrame_pdOpcode (s : State) : s.openFrame.pdOpcode = s.pdOpcode := rfl
@[simp] theorem State.openFrame_args (s : State) : s.openFrame.args = s.args := rfl
@[simp] theorem State.openFrame_pdArgc (s : State) : s.openFrame.pdArgc = s.pdArgc := rfl
@[simp] theorem State.openFrame_str (s : State) : s.openFrame.str = s.str := rfl
@[simp] theorem State.openFrame_pdStrlen (s : State) : s.openFrame.pdStrlen = s.pdStrlen := rfl
@[simp] theorem State.openFrame_pdHasString (s : State) : s.openFrame.pdHasString = s.pdHasString := rfl
@[simp] theorem State.openFrame_pdAcc (s : State) : s.openFrame.pdAcc = s.pdAcc := rfl
@[simp] theorem State.openFrame_pdSign (s : State) : s.openFrame.pdSign = s.pdSign := rfl
@[simp] theorem State.openFrame_pdError (s : State) : s.openFrame.pdError = s.pdError := rfl
@[simp] theorem State.openFrame_frameOpen (s : State) : s.openFrame.frameOpen = true := rfl
@[simp] theorem State.openFrame_msgOpen (s : State) : s.openFrame.msgOpen = s.msgOpen := rfl
@[simp] theorem State.openFrame_hostCrc (s : State) : s.openFrame.hostCrc = s.hostCrc := rfl
@[simp] theorem State.openFrame_response (s : State) : s.openFrame.response = s.response := rfl
@[simp] theorem State.openFrame_pending (s : State) : s.openFrame.pending = s.pending := rfl
@[simp] theorem State.openFrame_freeCount (s : State) : s.openFrame.freeCount = s.freeCount := rfl

/-! `openMessage` -/

@[simp] theorem State.openMessage_fxState (s : State) : s.openMessage.fxState = s.fxState := rfl
@[simp] theorem State.openMessage_fxLen (s : State) : s.openMessage.fxLen = s.fxLen := rfl
@[simp] theorem State.openMessage_payload (s : State) : s.openMessage.payload = s.payload := rfl
@[simp] theorem State.openMessage_fxHasId (s : State) : s.openMessage.fxHasId = s.fxHasId := rfl
@[simp] theorem State.openMessage_fxId (s : State) : s.openMessage.fxId = s.fxId := rfl
@[simp] theorem State.openMessage_fxClaimed (s : State) : s.openMessage.fxClaimed = s.fxClaimed := rfl
@[simp] theorem State.openMessage_fxCrc (s : State) : s.openMessage.fxCrc = s.fxCrc := rfl
@[simp] theorem State.openMessage_fxError (s : State) : s.openMessage.fxError = s.fxError := rfl
@[simp] theorem State.openMessage_pdState (s : State) : s.openMessage.pdState = s.pdState := rfl
@[simp] theorem State.openMessage_pdOpcode (s : State) : s.openMessage.pdOpcode = s.pdOpcode := rfl
@[simp] theorem State.openMessage_args (s : State) : s.openMessage.args = s.args := rfl
@[simp] theorem State.openMessage_pdArgc (s : State) : s.openMessage.pdArgc = s.pdArgc := rfl
@[simp] theorem State.openMessage_str (s : State) : s.openMessage.str = s.str := rfl
@[simp] theorem State.openMessage_pdStrlen (s : State) : s.openMessage.pdStrlen = s.pdStrlen := rfl
@[simp] theorem State.openMessage_pdHasString (s : State) : s.openMessage.pdHasString = s.pdHasString := rfl
@[simp] theorem State.openMessage_pdAcc (s : State) : s.openMessage.pdAcc = s.pdAcc := rfl
@[simp] theorem State.openMessage_pdSign (s : State) : s.openMessage.pdSign = s.pdSign := rfl
@[simp] theorem State.openMessage_pdError (s : State) : s.openMessage.pdError = s.pdError := rfl
@[simp] theorem State.openMessage_frameOpen (s : State) : s.openMessage.frameOpen = s.frameOpen := rfl
@[simp] theorem State.openMessage_msgOpen (s : State) : s.openMessage.msgOpen = true := rfl
@[simp] theorem State.openMessage_hostCrc (s : State) : s.openMessage.hostCrc = s.hostCrc := rfl
@[simp] theorem State.openMessage_response (s : State) : s.openMessage.response = s.response := rfl
@[simp] theorem State.openMessage_pending (s : State) : s.openMessage.pending = s.pending := rfl
@[simp] theorem State.openMessage_freeCount (s : State) : s.openMessage.freeCount = s.freeCount := rfl

/-! `setCrcFx` -/

@[simp] theorem State.setCrcFx_fxState (s : State) (v : Byte) : (s.setCrc .fx v).fxState = s.fxState := rfl
@[simp] theorem State.setCrcFx_fxLen (s : State) (v : Byte) : (s.setCrc .fx v).fxLen = s.fxLen := rfl
@[simp] theorem State.setCrcFx_payload (s : State) (v : Byte) : (s.setCrc .fx v).payload = s.payload := rfl
@[simp] theorem State.setCrcFx_fxHasId (s : State) (v : Byte) : (s.setCrc .fx v).fxHasId = s.fxHasId := rfl
@[simp] theorem State.setCrcFx_fxId (s : State) (v : Byte) : (s.setCrc .fx v).fxId = s.fxId := rfl
@[simp] theorem State.setCrcFx_fxClaimed (s : State) (v : Byte) : (s.setCrc .fx v).fxClaimed = s.fxClaimed := rfl
@[simp] theorem State.setCrcFx_fxCrc (s : State) (v : Byte) : (s.setCrc .fx v).fxCrc = v := rfl
@[simp] theorem State.setCrcFx_fxError (s : State) (v : Byte) : (s.setCrc .fx v).fxError = s.fxError := rfl
@[simp] theorem State.setCrcFx_pdState (s : State) (v : Byte) : (s.setCrc .fx v).pdState = s.pdState := rfl
@[simp] theorem State.setCrcFx_pdOpcode (s : State) (v : Byte) : (s.setCrc .fx v).pdOpcode = s.pdOpcode := rfl
@[simp] theorem State.setCrcFx_args (s : State) (v : Byte) : (s.setCrc .fx v).args = s.args := rfl
@[simp] theorem State.setCrcFx_pdArgc (s : State) (v : Byte) : (s.setCrc .fx v).pdArgc = s.pdArgc := rfl
@[simp] theorem State.setCrcFx_str (s : State) (v : Byte) : (s.setCrc .fx v).str = s.str := rfl
@[simp] theorem State.setCrcFx_pdStrlen (s : State) (v : Byte) : (s.setCrc .fx v).pdStrlen = s.pdStrlen := rfl
@[simp] theorem State.setCrcFx_pdHasString (s : State) (v : Byte) : (s.setCrc .fx v).pdHasString = s.pdHasString := rfl
@[simp] theorem State.setCrcFx_pdAcc (s : State) (v : Byte) : (s.setCrc .fx v).pdAcc = s.pdAcc := rfl
@[simp] theorem State.setCrcFx_pdSign (s : State) (v : Byte) : (s.setCrc .fx v).pdSign = s.pdSign := rfl
@[simp] theorem State.setCrcFx_pdError (s : State) (v : Byte) : (s.setCrc .fx v).pdError = s.pdError := rfl
@[simp] theorem State.setCrcFx_frameOpen (s : State) (v : Byte) : (s.setCrc .fx v).frameOpen = s.frameOpen := rfl
@[simp] theorem State.setCrcFx_msgOpen (s : State) (v : Byte) : (s.setCrc .fx v).msgOpen = s.msgOpen := rfl
@[simp] theorem State.setCrcFx_hostCrc (s : State) (v : Byte) : (s.setCrc .fx v).hostCrc = s.hostCrc := rfl
@[simp] theorem State.setCrcFx_response (s : State) (v : Byte) : (s.setCrc .fx v).response = s.response := rfl
@[simp] theorem State.setCrcFx_pending (s : State) (v : Byte) : (s.setCrc .fx v).pending = s.pending := rfl
@[simp] theorem State.setCrcFx_freeCount (s : State) (v : Byte) : (s.setCrc .fx v).freeCount = s.freeCount := rfl

/-! `setCrcHost` -/

@[simp] theorem State.setCrcHost_fxState (s : State) (v : Byte) : (s.setCrc .host v).fxState = s.fxState := rfl
@[simp] theorem State.setCrcHost_fxLen (s : State) (v : Byte) : (s.setCrc .host v).fxLen = s.fxLen := rfl
@[simp] theorem State.setCrcHost_payload (s : State) (v : Byte) : (s.setCrc .host v).payload = s.payload := rfl
@[simp] theorem State.setCrcHost_fxHasId (s : State) (v : Byte) : (s.setCrc .host v).fxHasId = s.fxHasId := rfl
@[simp] theorem State.setCrcHost_fxId (s : State) (v : Byte) : (s.setCrc .host v).fxId = s.fxId := rfl
@[simp] theorem State.setCrcHost_fxClaimed (s : State) (v : Byte) : (s.setCrc .host v).fxClaimed = s.fxClaimed := rfl
@[simp] theorem State.setCrcHost_fxCrc (s : State) (v : Byte) : (s.setCrc .host v).fxCrc = s.fxCrc := rfl
@[simp] theorem State.setCrcHost_fxError (s : State) (v : Byte) : (s.setCrc .host v).fxError = s.fxError := rfl
@[simp] theorem State.setCrcHost_pdState (s : State) (v : Byte) : (s.setCrc .host v).pdState = s.pdState := rfl
@[simp] theorem State.setCrcHost_pdOpcode (s : State) (v : Byte) : (s.setCrc .host v).pdOpcode = s.pdOpcode := rfl
@[simp] theorem State.setCrcHost_args (s : State) (v : Byte) : (s.setCrc .host v).args = s.args := rfl
@[simp] theorem State.setCrcHost_pdArgc (s : State) (v : Byte) : (s.setCrc .host v).pdArgc = s.pdArgc := rfl
@[simp] theorem State.setCrcHost_str (s : State) (v : Byte) : (s.setCrc .host v).str = s.str := rfl
@[simp] theorem State.setCrcHost_pdStrlen (s : State) (v : Byte) : (s.setCrc .host v).pdStrlen = s.pdStrlen := rfl
@[simp] theorem State.setCrcHost_pdHasString (s : State) (v : Byte) : (s.setCrc .host v).pdHasString = s.pdHasString := rfl
@[simp] theorem State.setCrcHost_pdAcc (s : State) (v : Byte) : (s.setCrc .host v).pdAcc = s.pdAcc := rfl
@[simp] theorem State.setCrcHost_pdSign (s : State) (v : Byte) : (s.setCrc .host v).pdSign = s.pdSign := rfl
@[simp] theorem State.setCrcHost_pdError (s : State) (v : Byte) : (s.setCrc .host v).pdError = s.pdError := rfl
@[simp] theorem State.setCrcHost_frameOpen (s : State) (v : Byte) : (s.setCrc .host v).frameOpen = s.frameOpen := rfl
@[simp] theorem State.setCrcHost_msgOpen (s : State) (v : Byte) : (s.setCrc .host v).msgOpen = s.msgOpen := rfl
@[simp] theorem State.setCrcHost_hostCrc (s : State) (v : Byte) : (s.setCrc .host v).hostCrc = v := rfl
@[simp] theorem State.setCrcHost_response (s : State) (v : Byte) : (s.setCrc .host v).response = s.response := rfl
@[simp] theorem State.setCrcHost_pending (s : State) (v : Byte) : (s.setCrc .host v).pending = s.pending := rfl
@[simp] theorem State.setCrcHost_freeCount (s : State) (v : Byte) : (s.setCrc .host v).freeCount = s.freeCount := rfl

/-! `raiseFx` -/

@[simp] theorem State.raiseFx_fxState (s : State) (e : ErrorName) : (s.raise .fx e).fxState = .awaitStart := rfl
@[simp] theorem State.raiseFx_fxLen (s : State) (e : ErrorName) : (s.raise .fx e).fxLen = s.fxLen := rfl
@[simp] theorem State.raiseFx_payload (s : State) (e : ErrorName) : (s.raise .fx e).payload = s.payload := rfl
@[simp] theorem State.raiseFx_fxHasId (s : State) (e : ErrorName) : (s.raise .fx e).fxHasId = s.fxHasId := rfl
@[simp] theorem State.raiseFx_fxId (s : State) (e : ErrorName) : (s.raise .fx e).fxId = s.fxId := rfl
@[simp] theorem State.raiseFx_fxClaimed (s : State) (e : ErrorName) : (s.raise .fx e).fxClaimed = s.fxClaimed := rfl
@[simp] theorem State.raiseFx_fxCrc (s : State) (e : ErrorName) : (s.raise .fx e).fxCrc = s.fxCrc := rfl
@[simp] theorem State.raiseFx_fxError (s : State) (e : ErrorName) : (s.raise .fx e).fxError = some e := rfl
@[simp] theorem State.raiseFx_pdState (s : State) (e : ErrorName) : (s.raise .fx e).pdState = s.pdState := rfl
@[simp] theorem State.raiseFx_pdOpcode (s : State) (e : ErrorName) : (s.raise .fx e).pdOpcode = s.pdOpcode := rfl
@[simp] theorem State.raiseFx_args (s : State) (e : ErrorName) : (s.raise .fx e).args = s.args := rfl
@[simp] theorem State.raiseFx_pdArgc (s : State) (e : ErrorName) : (s.raise .fx e).pdArgc = s.pdArgc := rfl
@[simp] theorem State.raiseFx_str (s : State) (e : ErrorName) : (s.raise .fx e).str = s.str := rfl
@[simp] theorem State.raiseFx_pdStrlen (s : State) (e : ErrorName) : (s.raise .fx e).pdStrlen = s.pdStrlen := rfl
@[simp] theorem State.raiseFx_pdHasString (s : State) (e : ErrorName) : (s.raise .fx e).pdHasString = s.pdHasString := rfl
@[simp] theorem State.raiseFx_pdAcc (s : State) (e : ErrorName) : (s.raise .fx e).pdAcc = s.pdAcc := rfl
@[simp] theorem State.raiseFx_pdSign (s : State) (e : ErrorName) : (s.raise .fx e).pdSign = s.pdSign := rfl
@[simp] theorem State.raiseFx_pdError (s : State) (e : ErrorName) : (s.raise .fx e).pdError = s.pdError := rfl
@[simp] theorem State.raiseFx_frameOpen (s : State) (e : ErrorName) : (s.raise .fx e).frameOpen = s.frameOpen := rfl
@[simp] theorem State.raiseFx_msgOpen (s : State) (e : ErrorName) : (s.raise .fx e).msgOpen = s.msgOpen := rfl
@[simp] theorem State.raiseFx_hostCrc (s : State) (e : ErrorName) : (s.raise .fx e).hostCrc = s.hostCrc := rfl
@[simp] theorem State.raiseFx_response (s : State) (e : ErrorName) : (s.raise .fx e).response = .event (.error e) := rfl
@[simp] theorem State.raiseFx_pending (s : State) (e : ErrorName) : (s.raise .fx e).pending = s.pending := rfl
@[simp] theorem State.raiseFx_freeCount (s : State) (e : ErrorName) : (s.raise .fx e).freeCount = s.freeCount := rfl

/-! `raisePd` -/

@[simp] theorem State.raisePd_fxState (s : State) (e : ErrorName) : (s.raise .pd e).fxState = s.fxState := rfl
@[simp] theorem State.raisePd_fxLen (s : State) (e : ErrorName) : (s.raise .pd e).fxLen = s.fxLen := rfl
@[simp] theorem State.raisePd_payload (s : State) (e : ErrorName) : (s.raise .pd e).payload = s.payload := rfl
@[simp] theorem State.raisePd_fxHasId (s : State) (e : ErrorName) : (s.raise .pd e).fxHasId = s.fxHasId := rfl
@[simp] theorem State.raisePd_fxId (s : State) (e : ErrorName) : (s.raise .pd e).fxId = s.fxId := rfl
@[simp] theorem State.raisePd_fxClaimed (s : State) (e : ErrorName) : (s.raise .pd e).fxClaimed = s.fxClaimed := rfl
@[simp] theorem State.raisePd_fxCrc (s : State) (e : ErrorName) : (s.raise .pd e).fxCrc = s.fxCrc := rfl
@[simp] theorem State.raisePd_fxError (s : State) (e : ErrorName) : (s.raise .pd e).fxError = s.fxError := rfl
@[simp] theorem State.raisePd_pdState (s : State) (e : ErrorName) : (s.raise .pd e).pdState = .waitOpcode := rfl
@[simp] theorem State.raisePd_pdOpcode (s : State) (e : ErrorName) : (s.raise .pd e).pdOpcode = s.pdOpcode := rfl
@[simp] theorem State.raisePd_args (s : State) (e : ErrorName) : (s.raise .pd e).args = s.args := rfl
@[simp] theorem State.raisePd_pdArgc (s : State) (e : ErrorName) : (s.raise .pd e).pdArgc = s.pdArgc := rfl
@[simp] theorem State.raisePd_str (s : State) (e : ErrorName) : (s.raise .pd e).str = s.str := rfl
@[simp] theorem State.raisePd_pdStrlen (s : State) (e : ErrorName) : (s.raise .pd e).pdStrlen = s.pdStrlen := rfl
@[simp] theorem State.raisePd_pdHasString (s : State) (e : ErrorName) : (s.raise .pd e).pdHasString = s.pdHasString := rfl
@[simp] theorem State.raisePd_pdAcc (s : State) (e : ErrorName) : (s.raise .pd e).pdAcc = s.pdAcc := rfl
@[simp] theorem State.raisePd_pdSign (s : State) (e : ErrorName) : (s.raise .pd e).pdSign = s.pdSign := rfl
@[simp] theorem State.raisePd_pdError (s : State) (e : ErrorName) : (s.raise .pd e).pdError = some e := rfl
@[simp] theorem State.raisePd_frameOpen (s : State) (e : ErrorName) : (s.raise .pd e).frameOpen = s.frameOpen := rfl
@[simp] theorem State.raisePd_msgOpen (s : State) (e : ErrorName) : (s.raise .pd e).msgOpen = false := rfl
@[simp] theorem State.raisePd_hostCrc (s : State) (e : ErrorName) : (s.raise .pd e).hostCrc = s.hostCrc := rfl
@[simp] theorem State.raisePd_response (s : State) (e : ErrorName) : (s.raise .pd e).response = .event (.error e) := rfl
@[simp] theorem State.raisePd_pending (s : State) (e : ErrorName) : (s.raise .pd e).pending = s.pending := rfl
@[simp] theorem State.raisePd_freeCount (s : State) (e : ErrorName) : (s.raise .pd e).freeCount = s.freeCount := rfl

/-! `present` -/

@[simp] theorem State.present_fxState (s : State) (t : Transaction) : (s.present t).fxState = s.fxState := rfl
@[simp] theorem State.present_fxLen (s : State) (t : Transaction) : (s.present t).fxLen = s.fxLen := rfl
@[simp] theorem State.present_payload (s : State) (t : Transaction) : (s.present t).payload = s.payload := rfl
@[simp] theorem State.present_fxHasId (s : State) (t : Transaction) : (s.present t).fxHasId = s.fxHasId := rfl
@[simp] theorem State.present_fxId (s : State) (t : Transaction) : (s.present t).fxId = s.fxId := rfl
@[simp] theorem State.present_fxClaimed (s : State) (t : Transaction) : (s.present t).fxClaimed = s.fxClaimed := rfl
@[simp] theorem State.present_fxCrc (s : State) (t : Transaction) : (s.present t).fxCrc = s.fxCrc := rfl
@[simp] theorem State.present_fxError (s : State) (t : Transaction) : (s.present t).fxError = s.fxError := rfl
@[simp] theorem State.present_pdState (s : State) (t : Transaction) : (s.present t).pdState = s.pdState := rfl
@[simp] theorem State.present_pdOpcode (s : State) (t : Transaction) : (s.present t).pdOpcode = s.pdOpcode := rfl
@[simp] theorem State.present_args (s : State) (t : Transaction) : (s.present t).args = s.args := rfl
@[simp] theorem State.present_pdArgc (s : State) (t : Transaction) : (s.present t).pdArgc = s.pdArgc := rfl
@[simp] theorem State.present_str (s : State) (t : Transaction) : (s.present t).str = s.str := rfl
@[simp] theorem State.present_pdStrlen (s : State) (t : Transaction) : (s.present t).pdStrlen = s.pdStrlen := rfl
@[simp] theorem State.present_pdHasString (s : State) (t : Transaction) : (s.present t).pdHasString = s.pdHasString := rfl
@[simp] theorem State.present_pdAcc (s : State) (t : Transaction) : (s.present t).pdAcc = s.pdAcc := rfl
@[simp] theorem State.present_pdSign (s : State) (t : Transaction) : (s.present t).pdSign = s.pdSign := rfl
@[simp] theorem State.present_pdError (s : State) (t : Transaction) : (s.present t).pdError = s.pdError := rfl
@[simp] theorem State.present_frameOpen (s : State) (t : Transaction) : (s.present t).frameOpen = s.frameOpen := rfl
@[simp] theorem State.present_msgOpen (s : State) (t : Transaction) : (s.present t).msgOpen = s.msgOpen := rfl
@[simp] theorem State.present_hostCrc (s : State) (t : Transaction) : (s.present t).hostCrc = s.hostCrc := rfl
@[simp] theorem State.present_response (s : State) (t : Transaction) : (s.present t).response = s.response := rfl
@[simp] theorem State.present_pending (s : State) (t : Transaction) : (s.present t).pending = .call t :: s.pending := rfl
@[simp] theorem State.present_freeCount (s : State) (t : Transaction) : (s.present t).freeCount = s.freeCount := rfl

end Sys2Proof.Machine
end

