-- ==== Sys2Proof/Laws/Ops.lean ====
section
/-! SUPPORT. What each shared operation can do, said once: if it answers a next state, then which. -/

namespace Sys2Proof.Machine

theorem onFx_selected {st : FxState} {sel : Bool} {s : State} (o : Out) (h : s.fxState = st)
    (hs : sel = true) : onFx st sel s o = o := by simp [onFx, h, hs]

theorem onFx_next {st : FxState} {sel : Bool} {s t : State} {o : Out}
    (h : onFx st sel s o = .next t) : s.fxState = st ∧ sel = true ∧ o = .next t := by
  unfold onFx at h
  split at h
  · next hc => exact ⟨hc.1, hc.2, h⟩
  · cases h

theorem onPd_selected {st : PdState} {sel : Bool} {s : State} (o : Out) (h : s.pdState = st)
    (hs : sel = true) : onPd st sel s o = o := by simp [onPd, h, hs]

theorem onPd_next {st : PdState} {sel : Bool} {s t : State} {o : Out}
    (h : onPd st sel s o = .next t) : s.pdState = st ∧ sel = true ∧ o = .next t := by
  unfold onPd at h
  split at h
  · next hc => exact ⟨hc.1, hc.2, h⟩
  · cases h

theorem raising_next {m : Engine} {e : ErrorName} {s t : State} (h : raising m e s = .next t) :
    t = s.raise m e := by
  unfold raising at h
  cases h
  rfl

theorem fxMove_next {st : FxState} {s t : State} (h : fxMove st s = .next t) :
    t = (s.fxGoto st).emit .quiet := by
  unfold fxMove at h
  cases h
  rfl

theorem pdMove_next {st : PdState} {s t : State} (h : pdMove st s = .next t) :
    t = (s.pdGoto st).emit .quiet := by
  unfold pdMove at h
  cases h
  rfl

theorem completeMessage_next {s t : State} (h : completeMessage s = .next t) :
    t = ((s.pdGoto .waitOpcode).openMessage).emit .messageComplete := by
  unfold completeMessage at h
  cases h
  rfl

theorem startValue_next {s t : State} {o : Out} (h : startValue s o = .next t) :
    (s.nvalues = 12 ∧ t = s.raise .pd .tooManyArguments) ∨ (s.nvalues ≠ 12 ∧ o = .next t) := by
  unfold startValue at h
  split at h
  · next hf => exact .inl ⟨by simpa [State.valuesFull, Config.maxValues] using hf, raising_next h⟩
  · next hf => exact .inr ⟨by simpa [State.valuesFull, Config.maxValues] using hf, h⟩

theorem storePayload_in {i : Nat} {v : Byte} {s : State} {k : State → Out} (h : i < 59) :
    storePayload i v s k = k { s with payload := s.payload.write i v } := by
  simp [storePayload, Config.payloadCap, h]

theorem storePayload_next {i : Nat} {v : Byte} {s t : State} {k : State → Out}
    (h : storePayload i v s k = .next t) :
    i < 59 ∧ k { s with payload := s.payload.write i v } = .next t := by
  unfold storePayload at h
  split at h
  · next hi => exact ⟨hi, h⟩
  · cases h

theorem storeStr_in {j : Nat} {v : Byte} {s : State} {k : State → Out} (h : j < 32) :
    storeStr j v s k = k { s with str := s.str.write j v } := by
  simp [storeStr, Config.maxString, h]

theorem storeStr_next {j : Nat} {v : Byte} {s t : State} {k : State → Out}
    (h : storeStr j v s k = .next t) :
    j < 32 ∧ k { s with str := s.str.write j v } = .next t := by
  unfold storeStr at h
  split at h
  · next hj => exact ⟨hj, h⟩
  · cases h

theorem storeArg_in {k : Nat} {v : Int16Bits} {s : State} {f : State → Out} (h : k < 12) :
    storeArg k v s f = f { s with args := s.args.set k v h } := by
  simp [storeArg, Config.maxArgs, h]

theorem storeArg_next {k : Nat} {v : Int16Bits} {s t : State} {f : State → Out}
    (h : storeArg k v s f = .next t) :
    ∃ hk : k < 12, f { s with args := s.args.set k v hk } = .next t := by
  unfold storeArg at h
  split at h
  · next hk => exact ⟨hk, h⟩
  · cases h

theorem endInteger_next {st : PdState} {s t : State} (h : endInteger st s = .next t) :
    ∃ hk : s.pdArgc < 12,
      t = ({ s with args := s.args.set s.pdArgc s.pdAcc hk, pdArgc := s.pdArgc + 1 }.pdGoto st).emit
        .quiet := by
  obtain ⟨hk, h⟩ := storeArg_next h
  cases h
  exact ⟨hk, rfl⟩

theorem loadPayload_read {i : Nat} {c : Byte} {s : State} {k : Byte → Out} (hi : i < 59)
    (h : s.payload.read i = some c) : loadPayload i s k = k c := by
  simp [loadPayload, Config.payloadCap, hi, h]

theorem loadPayload_next {i : Nat} {s t : State} {k : Byte → Out}
    (h : loadPayload i s k = .next t) : ∃ c, i < 59 ∧ s.payload.read i = some c ∧ k c = .next t := by
  unfold loadPayload at h
  split at h
  · next hi =>
    split at h
    · next c hc => exact ⟨c, hi, hc, h⟩
    · cases h
  · cases h

/-- One turn of BLK.DECODE's loop: the byte is read, PD takes it, and the loop goes on only when the
event is `None`. -/
theorem decodeFrom_next {n i : Nat} {s u : State} (h : decodeFrom (n + 1) i s = .next u) :
    ∃ c t, s.payload.read i = some c ∧ pdStep c s = .next t ∧
      ((t.response = .event .quiet ∧ decodeFrom n (i + 1) t = .next u) ∨
       (t.response ≠ .event .quiet ∧ u = t)) := by
  obtain ⟨c, -, hc, h⟩ := loadPayload_next h
  cases hp : pdStep c s with
  | next t =>
    rw [hp] at h
    refine ⟨c, t, hc, hp, ?_⟩
    dsimp only at h
    split at h
    · next hq => exact .inl ⟨hq, h⟩
    · next hq => cases h; exact .inr ⟨hq, rfl⟩
  | fault r => rw [hp] at h; cases h
  | refused r => rw [hp] at h; cases h

/-- A read writes nothing but the result, which is the output of an open window or a status register. -/
theorem readOutput_next {r : OutputRead} {s t : State} (h : readOutput r s = .next t) :
    ∃ x, t = s.respond x ∧
      match r with
      | .frameOutput => s.frameOpen = true ∧ ∃ bytes,
          s.payload.readSpan 0 (s.fxLen + 1) = .ok bytes ∧
          x = .frame bytes s.fxLen s.fxHasId s.fxId s.fxError
      | .messageOutput => s.msgOpen = true ∧ s.pdArgc ≤ Config.maxArgs ∧ ∃ bytes,
          s.str.readSpan 0 s.pdStrlen = .ok bytes ∧
          x = .message s.pdOpcode (s.args.toList.take s.pdArgc) s.pdArgc s.pdHasString bytes
            s.pdStrlen s.pdError
      | .fxError => x = .status s.fxError
      | .pdError => x = .status s.pdError := by
  cases r <;> simp only [readOutput, deliverSpan] at h
  · split at h
    · next hw =>
      split at h
      · next bytes hb => cases h; exact ⟨_, rfl, hw, bytes, hb, rfl⟩
      · cases h
    · cases h
  · split at h
    · next hw =>
      split at h
      · next ha =>
        split at h
        · next bytes hb => cases h; exact ⟨_, rfl, hw, ha, bytes, hb, rfl⟩
        · cases h
      · cases h
    · cases h
  · cases h; exact ⟨_, rfl, rfl⟩
  · cases h; exact ⟨_, rfl, rfl⟩

@[simp] theorem readOutput_fxError (s : State) :
    readOutput .fxError s = .next (s.respond (.status s.fxError)) := rfl

@[simp] theorem readOutput_pdError (s : State) :
    readOutput .pdError s = .next (s.respond (.status s.pdError)) := rfl

/-- What a step can do: hold, read an output, or run the operation the request selects. -/
theorem step_next {s t : State} (h : step s = .next t) :
    (s.pending = [] ∧ t = s) ∨
    (∃ r rest, s.pending = .read r :: rest ∧ readOutput r { s with pending := rest } = .next t) ∨
    (∃ c rest i, s.pending = .call c :: rest ∧ decode s.fxState s.pdState c = .ok i ∧
      exec i { s with pending := rest } = .next t) := by
  unfold step State.fetch at h
  cases hp : s.pending with
  | nil =>
    rw [hp] at h
    cases h
    exact .inl ⟨rfl, rfl⟩
  | cons r rest =>
    rw [hp] at h
    cases r with
    | read r => exact .inr (.inl ⟨r, rest, rfl, h⟩)
    | call c =>
      dsimp only at h
      cases hd : decode s.fxState s.pdState c with
      | ok i => rw [hd] at h; exact .inr (.inr ⟨c, rest, i, rfl, hd, h⟩)
      | error e => rw [hd] at h; cases h

end Sys2Proof.Machine
end

