-- ==== Sys2Proof/Laws/Decode.lean ====
section
/-! SUPPORT. `pd_step` inside BLK.DECODE is the operation the decoder selects. -/

namespace Sys2Proof.Machine

/-- The two ways to dispatch a PD byte agree: `pdStep`, which BLK.DECODE repeats, and `exec` of what
the decoder selects, which the transaction `pd_step` runs. -/
theorem pdStep_eq_exec (c : Byte) (s : State) : pdStep c s = exec (decodePd s.pdState c) s := by
  unfold pdStep decodePd
  cases s.pdState <;> dsimp only <;> repeat' split
  all_goals rfl

/-- The FX row a byte selects runs: its state and class are the ones its meaning asks for. -/
theorem exec_decodeFx_ne_notSelected (c : Byte) (s : State) :
    exec (decodeFx s.fxState c) s ≠ .refused .notSelected := by
  unfold decodeFx
  cases hs : s.fxState <;> dsimp only <;> repeat' split
  all_goals
    simp_all [exec, execFxStartHash, execFxStartSkip, execFxPayColon, execFxPayEol, execFxPayAppend,
      execFxId1X, execFxId1Hex, execFxId1Bad, execFxId2Hex, execFxId2Bad, execFxCk1Hex,
      execFxCk1Bad, execFxCk2Hex, execFxCk2Bad, execFxDum2X, execFxDum2Bad, execFxDum3X,
      execFxDum3Bad, execFxDum4X, execFxDum4Bad, execFxCrCr, execFxCrBad, execFxLfLf, execFxLfBad,
      onFx, raising, fxMove, storePayload, isNotHash, isPayloadByte, isNotLxNorHex, isNotHex,
      isNotLx, isNotCr, isNotLf]
  all_goals repeat' split
  all_goals simp_all

end Sys2Proof.Machine
end

