-- ==== Sys2Proof/Laws/Memory.lean ====
section
/-! SUPPORT. The laws of the byte spaces: read after write, and the canonical form. -/

namespace Sys2Proof.Machine

theorem Memory.read_write_same (m : Memory) (a : Nat) (v : Byte) : (m.write a v).read a = some v := by
  induction m with
  | nil => simp [Memory.write, Memory.read]
  | cons cell m ih =>
    obtain ⟨i, b⟩ := cell
    simp only [Memory.write]
    split
    · simp [Memory.read]
    · split
      · simp [Memory.read]
      · simp [Memory.read, show i ≠ a by omega, ih]

theorem Memory.read_write_other (m : Memory) {a x : Nat} (v : Byte) (h : x ≠ a) :
    (m.write a v).read x = m.read x := by
  induction m with
  | nil => simp [Memory.write, Memory.read, Ne.symm h]
  | cons cell m ih =>
    obtain ⟨i, b⟩ := cell
    simp only [Memory.write]
    split
    · simp [Memory.read, Ne.symm h]
    · split
      · next hai => simp [Memory.read, hai, show i ≠ x by omega]
      · simp [Memory.read, ih]

/-- Read after write, both cases. -/
theorem Memory.read_write (m : Memory) (a x : Nat) (v : Byte) :
    (m.write a v).read x = if x = a then some v else m.read x := by
  split
  · next h => rw [h, Memory.read_write_same]
  · next h => exact Memory.read_write_other m v h

theorem Memory.risesFrom_mono {lo lo' : Nat} (h : lo' ≤ lo) {m : Memory}
    (hm : Memory.risesFrom lo m = true) : Memory.risesFrom lo' m = true := by
  cases m with
  | nil => rfl
  | cons cell m =>
    simp only [Memory.risesFrom, Bool.and_eq_true, decide_eq_true_eq] at hm ⊢
    exact ⟨h.trans hm.1, hm.2⟩

theorem Memory.risesFrom_write {lo a : Nat} (h : lo ≤ a) (v : Byte) {m : Memory}
    (hm : Memory.risesFrom lo m = true) : Memory.risesFrom lo (m.write a v) = true := by
  induction m generalizing lo with
  | nil => simp [Memory.write, Memory.risesFrom, h]
  | cons cell m ih =>
    obtain ⟨i, b⟩ := cell
    simp only [Memory.risesFrom, Bool.and_eq_true, decide_eq_true_eq] at hm
    simp only [Memory.write]
    split
    · simp only [Memory.risesFrom, Bool.and_eq_true, decide_eq_true_eq]
      exact ⟨h, by omega, hm.2⟩
    · split
      · next hai => subst hai; simp [Memory.risesFrom, h, hm.2]
      · simp only [Memory.risesFrom, Bool.and_eq_true, decide_eq_true_eq]
        exact ⟨hm.1, ih (by omega) hm.2⟩

theorem Memory.all_write {p : Host.Cell → Bool} {a : Nat} {v : Byte} (hv : p (a, v) = true)
    {m : Memory} (hm : m.all p = true) : (m.write a v).all p = true := by
  induction m with
  | nil => simp [Memory.write, hv]
  | cons cell m ih =>
    obtain ⟨i, b⟩ := cell
    simp only [List.all_cons, Bool.and_eq_true] at hm
    simp only [Memory.write]
    split
    · simp only [List.all_cons, hv, hm.1, Bool.true_and]; exact hm.2
    · split
      · simp only [List.all_cons, hv, Bool.true_and]; exact hm.2
      · simp only [List.all_cons, hm.1, Bool.true_and]; exact ih hm.2

/-- A store within the space keeps the canonical form. -/
theorem Memory.wf_write {cap a : Nat} (h : a < cap) (v : Byte) {m : Memory}
    (hm : m.wf cap = true) : (m.write a v).wf cap = true := by
  simp only [Memory.wf, Bool.and_eq_true] at hm ⊢
  exact ⟨Memory.risesFrom_write (Nat.zero_le a) v hm.1,
    Memory.all_write (p := fun cell => decide (cell.1 < cap)) (by simpa using h) hm.2⟩

/-- An empty space is in canonical form. -/
theorem Memory.wf_nil (cap : Nat) : Memory.wf cap [] = true := rfl

theorem reset_payload_wf : State.reset.payload.wf Config.payloadCap = true := rfl

theorem reset_str_wf : State.reset.str.wf Config.maxString = true := rfl

/-- A span reads as the list of its elements. -/
theorem Memory.readSpan_eq_ok {m : Memory} {lo : Nat} {bs : List Byte}
    (h : ∀ i, i < bs.length → m.read (lo + i) = bs[i]?) : m.readSpan lo bs.length = .ok bs := by
  induction bs generalizing lo with
  | nil => rfl
  | cons b bs ih =>
    have h0 : m.read lo = some b := by simpa using h 0 (by simp)
    have ht : m.readSpan (lo + 1) bs.length = .ok bs :=
      ih fun i hi => by
        have := h (i + 1) (by simpa using hi)
        simpa [Nat.add_assoc, Nat.add_comm 1 i] using this
    simp [Memory.readSpan, h0, ht]

end Sys2Proof.Machine
end

