-- ==== Sys2Proof/Laws/PerInstr.lean ====
section
/-! SUPPORT. The byte ranges of the opcode table, row by row, and that each row's well-formedness is
membership in them: the byte classes were written from 30_encoding.md R88, the ranges here from
opcode_table.json. -/

namespace Sys2Proof.Laws

open Machine

/-- The table's `byte_ranges` of a row; `none` for an operation with no byte encoding. -/
def tableRanges : Instr → Option (List (Nat × Nat))
  | .fxStartHash => some [(0x23, 0x23)]
  | .fxStartSkip _ => some [(0x00, 0x22), (0x24, 0xFF)]
  | .fxPayColon => some [(0x3A, 0x3A)]
  | .fxPayEol _ => some [(0x0A, 0x0A), (0x0D, 0x0D)]
  | .fxPayAppend _ => some [(0x00, 0x09), (0x0B, 0x0C), (0x0E, 0x39), (0x3B, 0xFF)]
  | .fxId1X => some [(0x78, 0x78)]
  | .fxId1Hex _ => some [(0x30, 0x39), (0x61, 0x66)]
  | .fxId1Bad _ => some [(0x00, 0x2F), (0x3A, 0x60), (0x67, 0x77), (0x79, 0xFF)]
  | .fxId2Hex _ => some [(0x30, 0x39), (0x61, 0x66)]
  | .fxId2Bad _ => some [(0x00, 0x2F), (0x3A, 0x60), (0x67, 0xFF)]
  | .fxCk1Hex _ => some [(0x30, 0x39), (0x61, 0x66)]
  | .fxCk1Bad _ => some [(0x00, 0x2F), (0x3A, 0x60), (0x67, 0xFF)]
  | .fxCk2Hex _ => some [(0x30, 0x39), (0x61, 0x66)]
  | .fxCk2Bad _ => some [(0x00, 0x2F), (0x3A, 0x60), (0x67, 0xFF)]
  | .fxDum2X => some [(0x78, 0x78)]
  | .fxDum2Bad _ => some [(0x00, 0x77), (0x79, 0xFF)]
  | .fxDum3X => some [(0x78, 0x78)]
  | .fxDum3Bad _ => some [(0x00, 0x77), (0x79, 0xFF)]
  | .fxDum4X => some [(0x78, 0x78)]
  | .fxDum4Bad _ => some [(0x00, 0x77), (0x79, 0xFF)]
  | .fxCrCr => some [(0x0D, 0x0D)]
  | .fxCrBad _ => some [(0x00, 0x0C), (0x0E, 0xFF)]
  | .fxLfLf => some [(0x0A, 0x0A)]
  | .fxLfBad _ => some [(0x00, 0x09), (0x0B, 0xFF)]
  | .pdOpOpcode _ => some [(0x30, 0x39), (0x3F, 0x3F), (0x41, 0x5A), (0x61, 0x7A)]
  | .pdOpBad _ => some [(0x00, 0x2F), (0x3A, 0x3E), (0x40, 0x40), (0x5B, 0x60), (0x7B, 0xFF)]
  | .pdBeLbr => some [(0x5B, 0x5B)]
  | .pdBeNul => some [(0x00, 0x00)]
  | .pdBeBad _ => some [(0x01, 0x5A), (0x5C, 0xFF)]
  | .pdValMinus => some [(0x2D, 0x2D)]
  | .pdValDigit _ => some [(0x30, 0x39)]
  | .pdValQuote => some [(0x22, 0x22)]
  | .pdValBad _ => some [(0x00, 0x21), (0x23, 0x2C), (0x2E, 0x2F), (0x3A, 0xFF)]
  | .pdDigDigit _ => some [(0x30, 0x39)]
  | .pdDigBad _ => some [(0x00, 0x2F), (0x3A, 0xFF)]
  | .pdDcbDigit _ => some [(0x30, 0x39)]
  | .pdDcbComma => some [(0x2C, 0x2C)]
  | .pdDcbRbr => some [(0x5D, 0x5D)]
  | .pdDcbBad _ => some [(0x00, 0x2B), (0x2D, 0x2F), (0x3A, 0x5C), (0x5E, 0xFF)]
  | .pdStrQuote => some [(0x22, 0x22)]
  | .pdStrChar _ => some [(0x20, 0x21), (0x25, 0x3B), (0x3D, 0x3D), (0x3F, 0x3F), (0x41, 0x5B), (0x5D, 0x5D), (0x5F, 0x5F), (0x61, 0x7B), (0x7D, 0x7D)]
  | .pdStrBad _ => some [(0x00, 0x1F), (0x23, 0x24), (0x3C, 0x3C), (0x3E, 0x3E), (0x40, 0x40), (0x5C, 0x5C), (0x5E, 0x5E), (0x60, 0x60), (0x7C, 0x7C), (0x7E, 0xFF)]
  | .pdCbComma => some [(0x2C, 0x2C)]
  | .pdCbRbr => some [(0x5D, 0x5D)]
  | .pdCbBad _ => some [(0x00, 0x2B), (0x2D, 0x5C), (0x5E, 0xFF)]
  | .pdEndNul => some [(0x00, 0x00)]
  | .pdEndBad _ => some [(0x01, 0xFF)]
  | .crcStart _ _ => none
  | .crcUpdate _ _ => none
  | .crcUpdaten _ _ _ => none
  | .crcFinalize _ => none
  | .crcCompute _ _ => none
  | .blkReset => none
  | .blkDecode => none

/-- The byte an operation's transaction carries to a machine. -/
def carriedByte (i : Instr) : Option Byte :=
  match (encode i).transaction with
  | .fxStep c => some c
  | .pdStep c => some c
  | _ => none

/-- The byte lies in one of the ranges. -/
def inTable (ranges : List (Nat × Nat)) (c : Byte) : Bool :=
  ranges.any fun r => decide (r.1 ≤ c.toNat) && decide (c.toNat ≤ r.2)

/-- The operation is well formed exactly when its byte is in its row's ranges. -/
def TableRanges.Statement (i : Instr) : Prop :=
  ∀ ranges, tableRanges i = some ranges → ∀ c, carriedByte i = some c →
    i.wellFormed = inTable ranges c

theorem TableRanges.of_byte {i : Instr} (ranges : List (Nat × Nat)) (c : Byte)
    (hr : tableRanges i = some ranges) (hc : carriedByte i = some c)
    (h : i.wellFormed = inTable ranges c) : TableRanges.Statement i := by
  intro r hr' c' hc'
  rw [hr] at hr'
  rw [hc] at hc'
  cases hr'
  cases hc'
  exact h

theorem TableRanges.of_none {i : Instr} (h : tableRanges i = none) : TableRanges.Statement i := by
  intro r hr
  rw [h] at hr
  cases hr

theorem TableRanges.fxStartHash : TableRanges.Statement .fxStartHash := of_byte _ _ rfl rfl (by decide)
theorem TableRanges.fxStartSkip (c : Byte) : TableRanges.Statement (.fxStartSkip c) :=
  of_byte _ c rfl rfl (by revert c; decide)
theorem TableRanges.fxPayColon : TableRanges.Statement .fxPayColon := of_byte _ _ rfl rfl (by decide)
theorem TableRanges.fxPayEol (c : Byte) : TableRanges.Statement (.fxPayEol c) :=
  of_byte _ c rfl rfl (by revert c; decide)
theorem TableRanges.fxPayAppend (c : Byte) : TableRanges.Statement (.fxPayAppend c) :=
  of_byte _ c rfl rfl (by revert c; decide)
theorem TableRanges.fxId1X : TableRanges.Statement .fxId1X := of_byte _ _ rfl rfl (by decide)
theorem TableRanges.fxId1Hex (c : Byte) : TableRanges.Statement (.fxId1Hex c) :=
  of_byte _ c rfl rfl (by revert c; decide)
theorem TableRanges.fxId1Bad (c : Byte) : TableRanges.Statement (.fxId1Bad c) :=
  of_byte _ c rfl rfl (by revert c; decide)
theorem TableRanges.fxId2Hex (c : Byte) : TableRanges.Statement (.fxId2Hex c) :=
  of_byte _ c rfl rfl (by revert c; decide)
theorem TableRanges.fxId2Bad (c : Byte) : TableRanges.Statement (.fxId2Bad c) :=
  of_byte _ c rfl rfl (by revert c; decide)
theorem TableRanges.fxCk1Hex (c : Byte) : TableRanges.Statement (.fxCk1Hex c) :=
  of_byte _ c rfl rfl (by revert c; decide)
theorem TableRanges.fxCk1Bad (c : Byte) : TableRanges.Statement (.fxCk1Bad c) :=
  of_byte _ c rfl rfl (by revert c; decide)
theorem TableRanges.fxCk2Hex (c : Byte) : TableRanges.Statement (.fxCk2Hex c) :=
  of_byte _ c rfl rfl (by revert c; decide)
theorem TableRanges.fxCk2Bad (c : Byte) : TableRanges.Statement (.fxCk2Bad c) :=
  of_byte _ c rfl rfl (by revert c; decide)
theorem TableRanges.fxDum2X : TableRanges.Statement .fxDum2X := of_byte _ _ rfl rfl (by decide)
theorem TableRanges.fxDum2Bad (c : Byte) : TableRanges.Statement (.fxDum2Bad c) :=
  of_byte _ c rfl rfl (by revert c; decide)
theorem TableRanges.fxDum3X : TableRanges.Statement .fxDum3X := of_byte _ _ rfl rfl (by decide)
theorem TableRanges.fxDum3Bad (c : Byte) : TableRanges.Statement (.fxDum3Bad c) :=
  of_byte _ c rfl rfl (by revert c; decide)
theorem TableRanges.fxDum4X : TableRanges.Statement .fxDum4X := of_byte _ _ rfl rfl (by decide)
theorem TableRanges.fxDum4Bad (c : Byte) : TableRanges.Statement (.fxDum4Bad c) :=
  of_byte _ c rfl rfl (by revert c; decide)
theorem TableRanges.fxCrCr : TableRanges.Statement .fxCrCr := of_byte _ _ rfl rfl (by decide)
theorem TableRanges.fxCrBad (c : Byte) : TableRanges.Statement (.fxCrBad c) :=
  of_byte _ c rfl rfl (by revert c; decide)
theorem TableRanges.fxLfLf : TableRanges.Statement .fxLfLf := of_byte _ _ rfl rfl (by decide)
theorem TableRanges.fxLfBad (c : Byte) : TableRanges.Statement (.fxLfBad c) :=
  of_byte _ c rfl rfl (by revert c; decide)
theorem TableRanges.pdOpOpcode (c : Byte) : TableRanges.Statement (.pdOpOpcode c) :=
  of_byte _ c rfl rfl (by revert c; decide)
theorem TableRanges.pdOpBad (c : Byte) : TableRanges.Statement (.pdOpBad c) :=
  of_byte _ c rfl rfl (by revert c; decide)
theorem TableRanges.pdBeLbr : TableRanges.Statement .pdBeLbr := of_byte _ _ rfl rfl (by decide)
theorem TableRanges.pdBeNul : TableRanges.Statement .pdBeNul := of_byte _ _ rfl rfl (by decide)
theorem TableRanges.pdBeBad (c : Byte) : TableRanges.Statement (.pdBeBad c) :=
  of_byte _ c rfl rfl (by revert c; decide)
theorem TableRanges.pdValMinus : TableRanges.Statement .pdValMinus := of_byte _ _ rfl rfl (by decide)
theorem TableRanges.pdValDigit (c : Byte) : TableRanges.Statement (.pdValDigit c) :=
  of_byte _ c rfl rfl (by revert c; decide)
theorem TableRanges.pdValQuote : TableRanges.Statement .pdValQuote := of_byte _ _ rfl rfl (by decide)
theorem TableRanges.pdValBad (c : Byte) : TableRanges.Statement (.pdValBad c) :=
  of_byte _ c rfl rfl (by revert c; decide)
theorem TableRanges.pdDigDigit (c : Byte) : TableRanges.Statement (.pdDigDigit c) :=
  of_byte _ c rfl rfl (by revert c; decide)
theorem TableRanges.pdDigBad (c : Byte) : TableRanges.Statement (.pdDigBad c) :=
  of_byte _ c rfl rfl (by revert c; decide)
theorem TableRanges.pdDcbDigit (c : Byte) : TableRanges.Statement (.pdDcbDigit c) :=
  of_byte _ c rfl rfl (by revert c; decide)
theorem TableRanges.pdDcbComma : TableRanges.Statement .pdDcbComma := of_byte _ _ rfl rfl (by decide)
theorem TableRanges.pdDcbRbr : TableRanges.Statement .pdDcbRbr := of_byte _ _ rfl rfl (by decide)
theorem TableRanges.pdDcbBad (c : Byte) : TableRanges.Statement (.pdDcbBad c) :=
  of_byte _ c rfl rfl (by revert c; decide)
theorem TableRanges.pdStrQuote : TableRanges.Statement .pdStrQuote := of_byte _ _ rfl rfl (by decide)
theorem TableRanges.pdStrChar (c : Byte) : TableRanges.Statement (.pdStrChar c) :=
  of_byte _ c rfl rfl (by revert c; decide)
theorem TableRanges.pdStrBad (c : Byte) : TableRanges.Statement (.pdStrBad c) :=
  of_byte _ c rfl rfl (by revert c; decide)
theorem TableRanges.pdCbComma : TableRanges.Statement .pdCbComma := of_byte _ _ rfl rfl (by decide)
theorem TableRanges.pdCbRbr : TableRanges.Statement .pdCbRbr := of_byte _ _ rfl rfl (by decide)
theorem TableRanges.pdCbBad (c : Byte) : TableRanges.Statement (.pdCbBad c) :=
  of_byte _ c rfl rfl (by revert c; decide)
theorem TableRanges.pdEndNul : TableRanges.Statement .pdEndNul := of_byte _ _ rfl rfl (by decide)
theorem TableRanges.pdEndBad (c : Byte) : TableRanges.Statement (.pdEndBad c) :=
  of_byte _ c rfl rfl (by revert c; decide)
theorem TableRanges.crcStart (acc : Accumulator) (seed : Byte) : TableRanges.Statement (.crcStart acc seed) := of_none rfl
theorem TableRanges.crcUpdate (acc : Accumulator) (b : Byte) : TableRanges.Statement (.crcUpdate acc b) := of_none rfl
theorem TableRanges.crcUpdaten (acc : Accumulator) (bytes : List Byte) (length : Nat) : TableRanges.Statement (.crcUpdaten acc bytes length) := of_none rfl
theorem TableRanges.crcFinalize (acc : Accumulator) : TableRanges.Statement (.crcFinalize acc) := of_none rfl
theorem TableRanges.crcCompute (bytes : List Byte) (length : Nat) : TableRanges.Statement (.crcCompute bytes length) := of_none rfl
theorem TableRanges.blkReset : TableRanges.Statement .blkReset := of_none rfl
theorem TableRanges.blkDecode : TableRanges.Statement .blkDecode := of_none rfl

end Sys2Proof.Laws
end

