-- ==== Sys2Proof/Tests/Slice0.lean ====
section
/-! SUPPORT. Tests on fixed values, each expected result from spec/ (named in the test's comment), and
for each statement with hypotheses a state and operands that meet them (`witness_…`). -/

namespace Sys2Proof.Tests

open Machine

/-! ## Helpers -/

/-- What `f` sees after one call, if the call answers a next state. -/
def after {α : Type} (c : Transaction) (s : State) (f : State → α) : Option α :=
  match step (s.present c) with
  | .next t => some (f t)
  | _ => none

/-- Why one call is refused, if it is. -/
def refusalOf (c : Transaction) (s : State) : Option Refusal :=
  match step (s.present c) with
  | .refused r => some r
  | _ => none

/-- FX inside a frame of content `p`, with an accumulator value. -/
def fxAt (st : FxState) (p : List Byte) (crc : Byte) : State :=
  { State.reset with
    fxState := st, fxLen := p.length, fxCrc := crc
    payload := p.zipIdx.map fun x => (x.2, x.1) }

/-- PD inside a message of opcode `'V'`. -/
def pdAt (st : PdState) : State := { State.reset with pdState := st, pdOpcode := 0x56 }

/-- PD inside a string of content `cs`. -/
def strAt (st : PdState) (cs : List Byte) : State :=
  { pdAt st with
    pdHasString := true, pdStrlen := cs.length, str := cs.zipIdx.map fun x => (x.2, x.1) }

/-- The frame window after `#V:0af5\r\n` (95_test_vectors.md FX-1). -/
def frameV : State :=
  { State.reset with
    payload := [(0, 0x56), (1, 0x00)], fxLen := 1, fxHasId := true, fxId := 10
    fxClaimed := 0xF5, fxCrc := 0xF5, frameOpen := true }

/-- The message window after the message `V[7]` (95_test_vectors.md BLK-2). -/
def messageV7 : State :=
  { State.reset with
    pdOpcode := 0x56, args := (Vector.replicate 12 (0 : Int16Bits)).set 0 7, pdArgc := 1, pdAcc := 7
    msgOpen := true }

/-- The transaction selects this operation in these states. -/
def Decodes (fx : FxState) (pd : PdState) (t : Transaction) (i : Instr) : Prop :=
  (decode fx pd t).toOption = some i

/-! ## Operands are checked (WellFormed) -/

/-- One ill-formed term for each check of `Instr.wellFormed`, with the byte just outside the class
or one of another class of the same state. -/
theorem test_wellFormed_refuses_fx :
    [Instr.fxStartSkip 0x23, .fxPayEol 0x0B, .fxPayAppend 0x3A, .fxPayAppend 0x0D, .fxPayAppend 0x0A,
     .fxId1Hex 0x67, .fxId1Bad 0x78, .fxId1Bad 0x30, .fxId2Hex 0x41, .fxId2Bad 0x66, .fxCk1Hex 0x2F,
     .fxCk1Bad 0x39, .fxCk2Hex 0x3A, .fxCk2Bad 0x61, .fxDum2Bad 0x78, .fxDum3Bad 0x78, .fxDum4Bad 0x78,
     .fxCrBad 0x0D, .fxLfBad 0x0A].all (fun i => !i.wellFormed) = true := by decide

theorem test_wellFormed_refuses_pd :
    [Instr.pdOpOpcode 0x5F, .pdOpBad 0x3F, .pdBeBad 0x5B, .pdBeBad 0x00, .pdValDigit 0x3A,
     .pdValBad 0x2D, .pdValBad 0x35, .pdValBad 0x22, .pdDigDigit 0x2F, .pdDigBad 0x30,
     .pdDcbDigit 0x2C, .pdDcbBad 0x39, .pdDcbBad 0x2C, .pdDcbBad 0x5D, .pdStrChar 0x22, .pdStrChar 0x7E,
     .pdStrBad 0x22, .pdStrBad 0x20, .pdCbBad 0x2C, .pdCbBad 0x5D, .pdEndBad 0x00].all
      (fun i => !i.wellFormed) = true := by decide

theorem test_wellFormed_refuses_crc :
    [Instr.crcStart .fx 0, .crcUpdate .fx 0, .crcUpdaten .fx [0x23] 1, .crcUpdaten .host [0x23] 2,
     .crcFinalize .fx, .crcCompute [0x23] 0].all (fun i => !i.wellFormed) = true := by decide

/-! ## Decoding: words written out from 30_encoding.md R88 and R93 -/

theorem test_decode_awaitStart :
    Decodes .awaitStart .waitOpcode (.fxStep 0b00100011) .fxStartHash ∧
    Decodes .awaitStart .waitOpcode (.fxStep 0b01111010) (.fxStartSkip 0x7A) := by
  unfold Decodes; decide

theorem test_decode_awaitPayloadOrMetadata :
    Decodes .awaitPayloadOrMetadata .waitOpcode (.fxStep 0b00111010) .fxPayColon ∧
    Decodes .awaitPayloadOrMetadata .waitOpcode (.fxStep 0b00001101) (.fxPayEol 0x0D) ∧
    Decodes .awaitPayloadOrMetadata .waitOpcode (.fxStep 0b00001010) (.fxPayEol 0x0A) ∧
    Decodes .awaitPayloadOrMetadata .waitOpcode (.fxStep 0b00100011) (.fxPayAppend 0x23) := by
  unfold Decodes; decide

theorem test_decode_awaitId :
    Decodes .awaitIdChar1 .waitOpcode (.fxStep 0b01111000) .fxId1X ∧
    Decodes .awaitIdChar1 .waitOpcode (.fxStep 0b01100001) (.fxId1Hex 0x61) ∧
    Decodes .awaitIdChar1 .waitOpcode (.fxStep 0b01000001) (.fxId1Bad 0x41) ∧
    Decodes .awaitIdChar2 .waitOpcode (.fxStep 0b00111001) (.fxId2Hex 0x39) ∧
    Decodes .awaitIdChar2 .waitOpcode (.fxStep 0b01111000) (.fxId2Bad 0x78) := by
  unfold Decodes; decide

theorem test_decode_awaitChecksum :
    Decodes .awaitChecksum1 .waitOpcode (.fxStep 0b01100110) (.fxCk1Hex 0x66) ∧
    Decodes .awaitChecksum1 .waitOpcode (.fxStep 0b00001101) (.fxCk1Bad 0x0D) ∧
    Decodes .awaitChecksum2 .waitOpcode (.fxStep 0b00110101) (.fxCk2Hex 0x35) ∧
    Decodes .awaitChecksum2 .waitOpcode (.fxStep 0b01000111) (.fxCk2Bad 0x47) := by
  unfold Decodes; decide

theorem test_decode_awaitDummy :
    Decodes .awaitDummy2 .waitOpcode (.fxStep 0b01111000) .fxDum2X ∧
    Decodes .awaitDummy2 .waitOpcode (.fxStep 0b00110000) (.fxDum2Bad 0x30) ∧
    Decodes .awaitDummy3 .waitOpcode (.fxStep 0b01111000) .fxDum3X ∧
    Decodes .awaitDummy3 .waitOpcode (.fxStep 0b00001101) (.fxDum3Bad 0x0D) ∧
    Decodes .awaitDummy4 .waitOpcode (.fxStep 0b01111000) .fxDum4X ∧
    Decodes .awaitDummy4 .waitOpcode (.fxStep 0b01011000) (.fxDum4Bad 0x58) := by
  unfold Decodes; decide

theorem test_decode_awaitFrameEnd :
    Decodes .awaitCR .waitOpcode (.fxStep 0b00001101) .fxCrCr ∧
    Decodes .awaitCR .waitOpcode (.fxStep 0b00001010) (.fxCrBad 0x0A) ∧
    Decodes .awaitLF .waitOpcode (.fxStep 0b00001010) .fxLfLf ∧
    Decodes .awaitLF .waitOpcode (.fxStep 0b00100011) (.fxLfBad 0x23) := by
  unfold Decodes; decide

theorem test_decode_waitOpcode :
    Decodes .awaitStart .waitOpcode (.pdStep 0b01010110) (.pdOpOpcode 0x56) ∧
    Decodes .awaitStart .waitOpcode (.pdStep 0b01011111) (.pdOpBad 0x5F) ∧
    Decodes .awaitStart .waitBracketOrEnd (.pdStep 0b01011011) .pdBeLbr ∧
    Decodes .awaitStart .waitBracketOrEnd (.pdStep 0b00000000) .pdBeNul ∧
    Decodes .awaitStart .waitBracketOrEnd (.pdStep 0b00110001) (.pdBeBad 0x31) := by
  unfold Decodes; decide

theorem test_decode_waitValue :
    Decodes .awaitStart .waitValue (.pdStep 0b00101101) .pdValMinus ∧
    Decodes .awaitStart .waitValue (.pdStep 0b00110001) (.pdValDigit 0x31) ∧
    Decodes .awaitStart .waitValue (.pdStep 0b00100010) .pdValQuote ∧
    Decodes .awaitStart .waitValue (.pdStep 0b01011101) (.pdValBad 0x5D) := by
  unfold Decodes; decide

theorem test_decode_waitDigits :
    Decodes .awaitStart .waitDigit (.pdStep 0b00110010) (.pdDigDigit 0x32) ∧
    Decodes .awaitStart .waitDigit (.pdStep 0b01011101) (.pdDigBad 0x5D) ∧
    Decodes .awaitStart .waitDigitsOrCommaOrBracket (.pdStep 0b00111000) (.pdDcbDigit 0x38) ∧
    Decodes .awaitStart .waitDigitsOrCommaOrBracket (.pdStep 0b00101100) .pdDcbComma ∧
    Decodes .awaitStart .waitDigitsOrCommaOrBracket (.pdStep 0b01011101) .pdDcbRbr ∧
    Decodes .awaitStart .waitDigitsOrCommaOrBracket (.pdStep 0b00101110) (.pdDcbBad 0x2E) := by
  unfold Decodes; decide

theorem test_decode_waitString :
    Decodes .awaitStart .waitString (.pdStep 0b00100010) .pdStrQuote ∧
    Decodes .awaitStart .waitString (.pdStep 0b01101000) (.pdStrChar 0x68) ∧
    Decodes .awaitStart .waitString (.pdStep 0b00100011) (.pdStrBad 0x23) := by
  unfold Decodes; decide

theorem test_decode_waitClose :
    Decodes .awaitStart .waitCommaOrBracket (.pdStep 0b00101100) .pdCbComma ∧
    Decodes .awaitStart .waitCommaOrBracket (.pdStep 0b01011101) .pdCbRbr ∧
    Decodes .awaitStart .waitCommaOrBracket (.pdStep 0b01111000) (.pdCbBad 0x78) ∧
    Decodes .awaitStart .waitEnd (.pdStep 0b00000000) .pdEndNul ∧
    Decodes .awaitStart .waitEnd (.pdStep 0b01111000) (.pdEndBad 0x78) := by
  unfold Decodes; decide

/-- R96: the Checksum calls are the host's on its own accumulator only. -/
theorem test_decode_crc :
    Decodes .awaitStart .waitOpcode (.crcStart .host 0xE9) (.crcStart .host 0xE9) ∧
    Decodes .awaitStart .waitOpcode (.crcUpdate .host 0x56) (.crcUpdate .host 0x56) ∧
    Decodes .awaitStart .waitOpcode (.crcUpdaten .host [0x23] 1) (.crcUpdaten .host [0x23] 1) ∧
    Decodes .awaitStart .waitOpcode (.crcFinalize .host) (.crcFinalize .host) ∧
    Decodes .awaitStart .waitOpcode (.crcCompute [0x23] 1) (.crcCompute [0x23] 1) ∧
    refusalOf (.crcStart .fx 0) State.reset = some (.undecodable .fxCrcIsPrivate) ∧
    refusalOf (.crcCompute [0x23] 2) State.reset = some (.undecodable .lengthMismatch) := by
  unfold Decodes; decide

theorem test_decode_blk :
    Decodes .awaitLF .waitEnd .blkReset .blkReset ∧ Decodes .awaitLF .waitEnd .blkDecode .blkDecode := by
  unfold Decodes; decide

/-- How many of the 256 bytes a class holds. -/
def members (p : Byte → Bool) : Nat := ((List.range 256).filter fun n => p (BitVec.ofNat 8 n)).length

/-- The sizes in the tables of 30_encoding.md R89. -/
theorem test_class_sizes :
    [isNotHash, isPayloadByte, isNotLxNorHex, isNotHex, isNotLx, isNotCr, isNotLf, isNotOpch,
     isNotLbrNorNul, startsNoValue, isNotDigit, continuesNoNumber, isNoStringByte, isNotCommaNorRbr,
     isNotNul].map members =
    [255, 253, 239, 240, 255, 255, 255, 193, 254, 244, 246, 244, 171, 254, 255] := by decide +kernel

/-- 30_encoding.md R88: the printable bytes that are no string characters. -/
theorem test_strch_complement :
    (List.range 95).filter (fun n => !isStrch (BitVec.ofNat 8 (n + 0x20))) =
    [0x22, 0x23, 0x24, 0x3C, 0x3E, 0x40, 0x5C, 0x5E, 0x60, 0x7C, 0x7E].map (· - 0x20) := by
  decide +kernel

/-! ## The opcode table's bits -/

/-- The first row of the table with the byte 0x23, and of the table with 0x5B. -/
theorem test_decodeTableWord :
    decodeTableWord 8 0x23 = some .fxStartHash ∧ decodeTableWord 8 0x5B = some .pdBeLbr ∧
    decodeTableWord 16 0x23 = none ∧ decodeTableWord 8 0x123 = none := by decide

/-- The very next step runs the placed word. -/
theorem test_withFetchWord :
    (match step (State.reset.withFetchWord 8 0x3A) with
     | .next t => some (t.fxState, t.response)
     | _ => none) = some (.awaitIdChar1, .event .quiet) := by decide

/-! ## Checksum -/

/-- The values of 40_checksum.md R110, four rows of its table. -/
theorem test_crcTable_rows_0 :
    (List.range 64).map (fun i => (crcTable (BitVec.ofNat 8 (i + 0))).toNat) =
    [0x00, 0x07, 0x0E, 0x09, 0x1C, 0x1B, 0x12, 0x15, 0x38, 0x3F, 0x36, 0x31, 0x24, 0x23, 0x2A, 0x2D] ++
    [0x70, 0x77, 0x7E, 0x79, 0x6C, 0x6B, 0x62, 0x65, 0x48, 0x4F, 0x46, 0x41, 0x54, 0x53, 0x5A, 0x5D] ++
    [0xE0, 0xE7, 0xEE, 0xE9, 0xFC, 0xFB, 0xF2, 0xF5, 0xD8, 0xDF, 0xD6, 0xD1, 0xC4, 0xC3, 0xCA, 0xCD] ++
    [0x90, 0x97, 0x9E, 0x99, 0x8C, 0x8B, 0x82, 0x85, 0xA8, 0xAF, 0xA6, 0xA1, 0xB4, 0xB3, 0xBA, 0xBD] := by decide +kernel

/-- The values of 40_checksum.md R110, four rows of its table. -/
theorem test_crcTable_rows_4 :
    (List.range 64).map (fun i => (crcTable (BitVec.ofNat 8 (i + 64))).toNat) =
    [0xC7, 0xC0, 0xC9, 0xCE, 0xDB, 0xDC, 0xD5, 0xD2, 0xFF, 0xF8, 0xF1, 0xF6, 0xE3, 0xE4, 0xED, 0xEA] ++
    [0xB7, 0xB0, 0xB9, 0xBE, 0xAB, 0xAC, 0xA5, 0xA2, 0x8F, 0x88, 0x81, 0x86, 0x93, 0x94, 0x9D, 0x9A] ++
    [0x27, 0x20, 0x29, 0x2E, 0x3B, 0x3C, 0x35, 0x32, 0x1F, 0x18, 0x11, 0x16, 0x03, 0x04, 0x0D, 0x0A] ++
    [0x57, 0x50, 0x59, 0x5E, 0x4B, 0x4C, 0x45, 0x42, 0x6F, 0x68, 0x61, 0x66, 0x73, 0x74, 0x7D, 0x7A] := by decide +kernel

/-- The values of 40_checksum.md R110, four rows of its table. -/
theorem test_crcTable_rows_8 :
    (List.range 64).map (fun i => (crcTable (BitVec.ofNat 8 (i + 128))).toNat) =
    [0x89, 0x8E, 0x87, 0x80, 0x95, 0x92, 0x9B, 0x9C, 0xB1, 0xB6, 0xBF, 0xB8, 0xAD, 0xAA, 0xA3, 0xA4] ++
    [0xF9, 0xFE, 0xF7, 0xF0, 0xE5, 0xE2, 0xEB, 0xEC, 0xC1, 0xC6, 0xCF, 0xC8, 0xDD, 0xDA, 0xD3, 0xD4] ++
    [0x69, 0x6E, 0x67, 0x60, 0x75, 0x72, 0x7B, 0x7C, 0x51, 0x56, 0x5F, 0x58, 0x4D, 0x4A, 0x43, 0x44] ++
    [0x19, 0x1E, 0x17, 0x10, 0x05, 0x02, 0x0B, 0x0C, 0x21, 0x26, 0x2F, 0x28, 0x3D, 0x3A, 0x33, 0x34] := by decide +kernel

/-- The values of 40_checksum.md R110, four rows of its table. -/
theorem test_crcTable_rows_C :
    (List.range 64).map (fun i => (crcTable (BitVec.ofNat 8 (i + 192))).toNat) =
    [0x4E, 0x49, 0x40, 0x47, 0x52, 0x55, 0x5C, 0x5B, 0x76, 0x71, 0x78, 0x7F, 0x6A, 0x6D, 0x64, 0x63] ++
    [0x3E, 0x39, 0x30, 0x37, 0x22, 0x25, 0x2C, 0x2B, 0x06, 0x01, 0x08, 0x0F, 0x1A, 0x1D, 0x14, 0x13] ++
    [0xAE, 0xA9, 0xA0, 0xA7, 0xB2, 0xB5, 0xBC, 0xBB, 0x96, 0x91, 0x98, 0x9F, 0x8A, 0x8D, 0x84, 0x83] ++
    [0xDE, 0xD9, 0xD0, 0xD7, 0xC2, 0xC5, 0xCC, 0xCB, 0xE6, 0xE1, 0xE8, 0xEF, 0xFA, 0xFD, 0xF4, 0xF3] := by decide +kernel

/-- CRC-19: a seed other than 0. -/
theorem test_crcStart :
    after (.crcStart .host 0xE9) State.reset (fun t => (t.hostCrc, t.fxCrc)) = some (0xE9, 0x00) := by
  decide

/-- CRC-19, CRC-7: `'V'` after the marker. -/
theorem test_crcUpdate :
    after (.crcUpdate .host 0x56) { State.reset with hostCrc := 0xE9 }
      (fun t => (t.hostCrc, t.response)) = some (0x34, .done) := by decide

/-- CRC-22: `":0a"` after `"#V"`. -/
theorem test_crcUpdaten :
    after (.crcUpdaten .host [0x3A, 0x30, 0x61] 3) { State.reset with hostCrc := 0x34 }
      (fun t => t.hostCrc) = some 0xF5 := by decide +kernel

/-- CRC-23. -/
theorem test_crcFinalize :
    after (.crcFinalize .host) { State.reset with hostCrc := 0xF5 }
      (fun t => (t.response, t.hostCrc)) = some (.byte 0xF5, 0xF5) := by decide

/-- CRC-11: `"123456789"`. -/
theorem test_crcCompute :
    after (.crcCompute [0x31, 0x32, 0x33, 0x34, 0x35, 0x36, 0x37, 0x38, 0x39] 9) State.reset
      (fun t => t.response) = some (.byte 0xF4) := by decide +kernel

/-! ## Frame Extractor: the examples of 41_frame_extractor.md -/

/-- CRC-6; the old frame is dropped. -/
theorem test_fxStartHash :
    after (.fxStep 0x23) frameV
      (fun t => (t.fxCrc, t.fxState, t.fxLen, t.fxHasId, t.frameOpen)) =
      some (0xE9, .awaitPayloadOrMetadata, 0, false, false) := by decide

/-- `'z'` changes nothing, and the window stays open. -/
theorem test_fxStartSkip :
    after (.fxStep 0x7A) frameV
      (fun t => (t.fxState, t.frameOpen, t.response)) =
      some (.awaitStart, true, .event .quiet) := by decide

/-- After `#V`. -/
theorem test_fxPayColon :
    after (.fxStep 0x3A) (fxAt .awaitPayloadOrMetadata [0x56] 0x34)
      (fun t => (t.fxCrc, t.fxState, t.fxLen)) =
      some (0x2A, .awaitIdChar1, 1) := by decide

/-- `#A\r`. -/
theorem test_fxPayEol :
    after (.fxStep 0x0D) (fxAt .awaitPayloadOrMetadata [0x41] 0)
      (fun t => (t.fxError, t.fxState, t.response)) =
      some (some .missingMetadata, .awaitStart, .event (.error .missingMetadata)) := by decide

/-- After `#`. -/
theorem test_fxPayAppend :
    after (.fxStep 0x56) (fxAt .awaitPayloadOrMetadata [] 0xE9)
      (fun t => (t.payload, t.fxLen, t.fxCrc, t.fxState)) =
      some ([(0, 0x56)], 1, 0x34, .awaitPayloadOrMetadata) := by decide

/-- The 59th byte. -/
theorem test_fxPayAppend_full :
    after (.fxStep 0x56) { State.reset with fxState := .awaitPayloadOrMetadata, fxLen := 58, fxCrc := 7 }
      (fun t => (t.fxError, t.fxLen, t.fxCrc, t.payload)) =
      some (some .frameTooLong, 58, 7, []) := by decide

/-- `#M[1]:x`. -/
theorem test_fxId1X :
    after (.fxStep 0x78) (fxAt .awaitIdChar1 [] 0xC3)
      (fun t => (t.fxState, t.fxHasId, t.fxCrc)) =
      some (.awaitDummy2, false, 0xC3) := by decide

/-- `'0'` after `#V:`. -/
theorem test_fxId1Hex :
    after (.fxStep 0x30) (fxAt .awaitIdChar1 [0x56] 0x2A)
      (fun t => (t.fxId, t.fxHasId, t.fxCrc, t.fxState)) =
      some (0, true, 0x46, .awaitIdChar2) := by decide

/-- `#V:G`. -/
theorem test_fxId1Bad :
    after (.fxStep 0x47) (fxAt .awaitIdChar1 [0x56] 0x2A)
      (fun t => t.response) =
      some (.event (.error .invalidId)) := by decide

/-- `'a'` after `#V:0`. -/
theorem test_fxId2Hex :
    after (.fxStep 0x61) (fxAt .awaitIdChar2 [0x56] 0x46)
      (fun t => (t.fxId, t.fxCrc, t.fxState)) =
      some (10, 0xF5, .awaitChecksum1) := by decide

/-- The high digit is the first one: `fa` is 250. -/
theorem test_fxId2Hex_high :
    after (.fxStep 0x61) { State.reset with fxState := .awaitIdChar2, fxId := 15 }
      (fun t => t.fxId) =
      some 250 := by decide

/-- `#V:0x`. -/
theorem test_fxId2Bad :
    after (.fxStep 0x78) (fxAt .awaitIdChar2 [0x56] 0x46)
      (fun t => t.response) =
      some (.event (.error .invalidId)) := by decide

/-- `'f'` after `#V:0a`. -/
theorem test_fxCk1Hex :
    after (.fxStep 0x66) (fxAt .awaitChecksum1 [0x56] 0xF5)
      (fun t => (t.fxClaimed, t.fxCrc, t.fxState)) =
      some (15, 0xF5, .awaitChecksum2) := by decide

/-- `#V:0a\r`. -/
theorem test_fxCk1Bad :
    after (.fxStep 0x0D) (fxAt .awaitChecksum1 [0x56] 0xF5)
      (fun t => t.response) =
      some (.event (.error .invalidChecksumDigits)) := by decide

/-- `'5'` after `#V:0af`. -/
theorem test_fxCk2Hex :
    after (.fxStep 0x35) { fxAt .awaitChecksum2 [0x56] 0xF5 with fxClaimed := 15 }
      (fun t => (t.fxClaimed, t.fxState)) =
      some (0xF5, .awaitCR) := by decide

/-- `'6'` instead (FX-2). -/
theorem test_fxCk2Hex_mismatch :
    after (.fxStep 0x36) { fxAt .awaitChecksum2 [0x56] 0xF5 with fxClaimed := 15 }
      (fun t => (t.fxClaimed, t.fxCrc, t.response)) =
      some (0xF6, 0xF5, .event (.error .checksumMismatch)) := by decide

/-- `#V:0afG`. -/
theorem test_fxCk2Bad :
    after (.fxStep 0x47) (fxAt .awaitChecksum2 [0x56] 0xF5)
      (fun t => t.response) =
      some (.event (.error .invalidChecksumDigits)) := by decide

/-- `#M[1]:xx`. -/
theorem test_fxDum2X :
    after (.fxStep 0x78) (fxAt .awaitDummy2 [] 0)
      (fun t => t.fxState) =
      some .awaitDummy3 := by decide

/-- `#M:x0`. -/
theorem test_fxDum2Bad :
    after (.fxStep 0x30) (fxAt .awaitDummy2 [] 0)
      (fun t => t.response) =
      some (.event (.error .invalidDummyMetadata)) := by decide

/-- `#M[1]:xxx`. -/
theorem test_fxDum3X :
    after (.fxStep 0x78) (fxAt .awaitDummy3 [] 0)
      (fun t => t.fxState) =
      some .awaitDummy4 := by decide

/-- `#M:xx\r`. -/
theorem test_fxDum3Bad :
    after (.fxStep 0x0D) (fxAt .awaitDummy3 [] 0)
      (fun t => t.response) =
      some (.event (.error .invalidDummyMetadata)) := by decide

/-- `#M[1]:xxxx`. -/
theorem test_fxDum4X :
    after (.fxStep 0x78) (fxAt .awaitDummy4 [] 0)
      (fun t => (t.fxState, t.fxHasId)) =
      some (.awaitCR, false) := by decide

/-- `#M:xxx\r`. -/
theorem test_fxDum4Bad :
    after (.fxStep 0x0D) (fxAt .awaitDummy4 [] 0)
      (fun t => t.response) =
      some (.event (.error .invalidDummyMetadata)) := by decide

/-- After `#V:0af5`. -/
theorem test_fxCrCr :
    after (.fxStep 0x0D) (fxAt .awaitCR [0x56] 0xF5)
      (fun t => (t.payload, t.fxLen, t.fxState)) =
      some ([(0, 0x56), (1, 0x00)], 1, .awaitLF) := by decide

/-- `#M[1]:xxxx\n`. -/
theorem test_fxCrBad :
    after (.fxStep 0x0A) (fxAt .awaitCR [] 0)
      (fun t => t.response) =
      some (.event (.error .expectedFrameEnd)) := by decide

/-- `#V:0af5\r\n` (FX-1). -/
theorem test_fxLfLf :
    after (.fxStep 0x0A) { frameV with fxState := .awaitLF, frameOpen := false }
      (fun t => decide (t = { frameV with response := .event .frameComplete })) =
      some true := by decide

/-- `#V:0af5\r#`: the marker does not start a frame. -/
theorem test_fxLfBad :
    after (.fxStep 0x23) (fxAt .awaitLF [0x56] 0xF5)
      (fun t => (t.fxState, t.response)) =
      some (.awaitStart, .event (.error .expectedFrameEnd)) := by decide

/-! ## Payload Decoder: the examples of 42_payload_decoder.md -/

/-- The old message is dropped. -/
theorem test_pdOpOpcode :
    after (.pdStep 0x65) { messageV7 with pdSign := .minus }
      (fun t => (t.pdOpcode, t.pdArgc, t.pdAcc, t.pdSign, t.msgOpen, t.pdState)) =
      some (0x65, 0, 0, .plus, false, .waitBracketOrEnd) := by decide

/-- BLK-6: `'_'` in the message window closes it and keeps the registers. -/
theorem test_pdOpBad :
    after (.pdStep 0x5F) messageV7
      (fun t => (t.pdError, t.pdState, t.msgOpen, t.pdOpcode, t.pdArgc)) =
      some (some .invalidOpcode, .waitOpcode, false, 0x56, 1) := by decide

/-- After `V`. -/
theorem test_pdBeLbr :
    after (.pdStep 0x5B) (pdAt .waitBracketOrEnd)
      (fun t => t.pdState) =
      some .waitValue := by decide

/-- `V\0`. -/
theorem test_pdBeNul :
    after (.pdStep 0x00) (pdAt .waitBracketOrEnd)
      (fun t => (t.pdState, t.response, t.msgOpen, t.pdOpcode)) =
      some (.waitOpcode, .event .messageComplete, true, 0x56) := by decide

/-- `V1`. -/
theorem test_pdBeBad :
    after (.pdStep 0x31) (pdAt .waitBracketOrEnd)
      (fun t => t.response) =
      some (.event (.error .unexpectedChar)) := by decide

/-- After `V[`. -/
theorem test_pdValMinus :
    after (.pdStep 0x2D) { pdAt .waitValue with pdAcc := 9 }
      (fun t => (t.pdSign, t.pdAcc, t.pdState)) =
      some (.minus, 0, .waitDigit) := by decide

/-- A 13th value (PD-31). -/
theorem test_pdValMinus_full :
    after (.pdStep 0x2D) { pdAt .waitValue with pdArgc := 12 }
      (fun t => t.response) =
      some (.event (.error .tooManyArguments)) := by decide

/-- After `V[`. -/
theorem test_pdValDigit :
    after (.pdStep 0x31) { pdAt .waitValue with pdSign := .minus }
      (fun t => (t.pdSign, t.pdAcc, t.pdState)) =
      some (.plus, 1, .waitDigitsOrCommaOrBracket) := by decide

/-- A 13th value, the string among the 12 (S4-e, R175). -/
theorem test_pdValDigit_full :
    after (.pdStep 0x31) { strAt .waitValue [] with pdArgc := 11 }
      (fun t => t.response) =
      some (.event (.error .tooManyArguments)) := by decide

/-- After `e[`. -/
theorem test_pdValQuote :
    after (.pdStep 0x22) { pdAt .waitValue with pdArgc := 11 }
      (fun t => (t.pdHasString, t.pdStrlen, t.pdState)) =
      some (true, 0, .waitString) := by decide

/-- `e["a","`. -/
theorem test_pdValQuote_second :
    after (.pdStep 0x22) (strAt .waitValue [0x61])
      (fun t => t.response) =
      some (.event (.error .tooManyStrings)) := by decide

/-- `V[]`. -/
theorem test_pdValBad :
    after (.pdStep 0x5D) (pdAt .waitValue)
      (fun t => t.response) =
      some (.event (.error .unexpectedChar)) := by decide

/-- After `V[-`. -/
theorem test_pdDigDigit :
    after (.pdStep 0x32) { pdAt .waitDigit with pdSign := .minus }
      (fun t => (t.pdAcc.toInt, t.pdState)) =
      some (-2, .waitDigitsOrCommaOrBracket) := by decide

/-- `V[-]`. -/
theorem test_pdDigBad :
    after (.pdStep 0x5D) (pdAt .waitDigit)
      (fun t => t.response) =
      some (.event (.error .unexpectedChar)) := by decide

/-- S4-d: the last digit of `-32768`. -/
theorem test_pdDcbDigit :
    after (.pdStep 0x38) { pdAt .waitDigitsOrCommaOrBracket with pdSign := .minus, pdAcc := BitVec.ofInt 16 (-3276) }
      (fun t => (t.pdAcc.toInt, t.response)) =
      some (-32768, .event .quiet) := by decide

/-- S4-a: the last digit of `32768`. -/
theorem test_pdDcbDigit_range :
    after (.pdStep 0x38) { pdAt .waitDigitsOrCommaOrBracket with pdAcc := 3276 }
      (fun t => (t.pdAcc, t.pdArgc, t.response)) =
      some (3276, 0, .event (.error .valueOutOfRange)) := by decide

/-- After `V[100`. -/
theorem test_pdDcbComma :
    after (.pdStep 0x2C) { pdAt .waitDigitsOrCommaOrBracket with pdAcc := 100 }
      (fun t => (t.args[0], t.pdArgc, t.pdState)) =
      some (100, 1, .waitValue) := by decide

/-- After `V[100,-200`. -/
theorem test_pdDcbRbr :
    after (.pdStep 0x5D) { pdAt .waitDigitsOrCommaOrBracket with pdAcc := BitVec.ofInt 16 (-200), pdArgc := 1 }
      (fun t => (t.args[1].toInt, t.pdArgc, t.pdState)) =
      some (-200, 2, .waitEnd) := by decide

/-- `V[1.5]`. -/
theorem test_pdDcbBad :
    after (.pdStep 0x2E) (pdAt .waitDigitsOrCommaOrBracket)
      (fun t => t.response) =
      some (.event (.error .unexpectedChar)) := by decide

/-- After `e["hi`. -/
theorem test_pdStrQuote :
    after (.pdStep 0x22) (strAt .waitString [0x68, 0x69])
      (fun t => (t.pdState, t.pdStrlen)) =
      some (.waitCommaOrBracket, 2) := by decide

/-- After `e["`. -/
theorem test_pdStrChar :
    after (.pdStep 0x68) (strAt .waitString [])
      (fun t => (t.str, t.pdStrlen, t.pdState)) =
      some ([(0, 0x68)], 1, .waitString) := by decide

/-- The 33rd character. -/
theorem test_pdStrChar_full :
    after (.pdStep 0x68) { strAt .waitString [] with pdStrlen := 32 }
      (fun t => (t.response, t.pdStrlen)) =
      some (.event (.error .stringTooLong), 32) := by decide

/-- `e["a#"]`. -/
theorem test_pdStrBad :
    after (.pdStep 0x23) (strAt .waitString [0x61])
      (fun t => t.response) =
      some (.event (.error .invalidStringChar)) := by decide

/-- After `e["hi"`. -/
theorem test_pdCbComma :
    after (.pdStep 0x2C) (strAt .waitCommaOrBracket [0x68, 0x69])
      (fun t => t.pdState) =
      some .waitValue := by decide

/-- After `e["hi"`. -/
theorem test_pdCbRbr :
    after (.pdStep 0x5D) (strAt .waitCommaOrBracket [0x68, 0x69])
      (fun t => t.pdState) =
      some .waitEnd := by decide

/-- `e["a"x]`. -/
theorem test_pdCbBad :
    after (.pdStep 0x78) (strAt .waitCommaOrBracket [0x61])
      (fun t => t.response) =
      some (.event (.error .unexpectedChar)) := by decide

/-- `V[7]\0`. -/
theorem test_pdEndNul :
    after (.pdStep 0x00) { messageV7 with pdState := .waitEnd, msgOpen := false }
      (fun t => decide (t = { messageV7 with response := .event .messageComplete })) =
      some true := by decide

/-- `V[1]x`. -/
theorem test_pdEndBad :
    after (.pdStep 0x78) (pdAt .waitEnd)
      (fun t => t.response) =
      some (.event (.error .unexpectedChar)) := by decide

/-! ## The block (95_test_vectors.md section 2.4) -/

/-- BLK-1. -/
theorem test_blkReset :
    after (.blkReset) (fxAt .awaitPayloadOrMetadata [0x56, 0x5B, 0x31] 0xA1)
      (fun t => (t.fxState, t.fxLen, t.fxCrc, t.payload)) =
      some (.awaitStart, 0, 0, []) := by decide

/-- The frame of FX-1: its message is `V`, complete at the terminator. -/
theorem test_blkDecode :
    after (.blkDecode) frameV
      (fun t => (t.response, t.pdOpcode, t.pdArgc, t.msgOpen, t.frameOpen)) =
      some (.event .messageComplete, 0x56, 0, true, true) := by decide

/-- BLK-3: an empty payload; the first byte fed is the terminator. -/
theorem test_blkDecode_empty :
    after (.blkDecode) { frameV with payload := [(0, 0x00)], fxLen := 0 }
      (fun t => (t.response, t.pdError)) =
      some (.event (.error .invalidOpcode), some .invalidOpcode) := by decide

/-- A read hands over the frame output (10_state.md R29). -/
theorem test_frameOutput :
    (match step { frameV with pending := [.read .frameOutput] } with
     | .next t => some t.response
     | _ => none) = some (.frame [0x56, 0x00] 1 true 10 none) := by decide

/-- A read hands over the message output (10_state.md R37). -/
theorem test_messageOutput :
    (match step { messageV7 with pending := [.read .messageOutput] } with
     | .next t => some t.response
     | _ => none) = some (.message 0x56 [7] 1 false [] 0 none) := by decide

/-- A read of `fx_error` outside the window hands over the last FX error (10_state.md R28). -/
theorem test_fxErrorRead :
    (match step { State.reset with fxError := some .checksumMismatch, pending := [.read .fxError] } with
     | .next t => some (t.response, t.fxError)
     | _ => none) = some (.status (some .checksumMismatch), some .checksumMismatch) := by decide

/-- A read of `pd_error` outside the window hands over the last PD error (BLK-6, 10_state.md R36). -/
theorem test_pdErrorRead :
    (match step { State.reset with pdError := some .invalidOpcode, pending := [.read .pdError] } with
     | .next t => some (t.response, t.pdError)
     | _ => none) = some (.status (some .invalidOpcode), some .invalidOpcode) := by decide

/-! ## Witnesses: a state and operands that meet each statement's hypotheses -/

/-- A state in the frame window and the message window at once, in good order. -/
def bothOpen : State :=
  { frameV with
    pdOpcode := 0x56, args := (Vector.replicate 12 (0 : Int16Bits)).set 0 7, pdArgc := 1, pdAcc := 7
    msgOpen := true }

theorem frameV_holds : frameV.HoldsPayload [0x56] :=
  ⟨rfl, fun i hi => by
    obtain rfl : i = 0 := Nat.lt_one_iff.mp hi
    rfl⟩

theorem isPayload_V : IsPayload [0x56] := by unfold IsPayload; decide

/-- FX is in good order in every state that has the FX part of `frameV`. -/
theorem fxInv_of_frameV (s : State) (h : ∀ p ∈ fxParts, p ≠ .payload → p ≠ .response → p.Same frameV s)
    (hp : s.payload = frameV.payload) : FxInv s := by
  have hst : s.fxState = .awaitStart := h .fxState (by decide) (by decide) (by decide)
  have hl : s.fxLen = 1 := h .fxLen (by decide) (by decide) (by decide)
  have hh : s.fxHasId = true := h .fxHasId (by decide) (by decide) (by decide)
  have hi : s.fxId = 10 := h .fxId (by decide) (by decide) (by decide)
  have hc : s.fxClaimed = 0xF5 := h .fxClaimed (by decide) (by decide) (by decide)
  have hr : s.fxCrc = 0xF5 := h .fxCrc (by decide) (by decide) (by decide)
  have he : s.fxError = none := h .fxError (by decide) (by decide) (by decide)
  have ho : s.frameOpen = true := h .frameOpen (by decide) (by decide) (by decide)
  refine ⟨by omega, by rw [hp]; decide, ⟨[0x56], ⟨hl, ?_⟩, isPayload_V, ?_⟩, fun _ => by rw [hp, hl]; rfl,
    fun _ => hst, by simp [hst], by simp [hst], fun _ => hh, by simp [hst], by simp [hh],
    fun _ _ => by rw [hc, hr], fun _ => he, by simp [he]⟩
  · intro i hi
    obtain rfl : i = 0 := Nat.lt_one_iff.mp hi
    rw [hp]; rfl
  · intro bytes hb
    simp only [State.covered, hst, ho, hh, hi, if_true, Option.some.injEq] at hb
    rw [hr, ← hb]
    decide +kernel

theorem fxInv_frameV : FxInv frameV :=
  fxInv_of_frameV _ (fun p _ _ _ => by cases p <;> first | rfl | exact fun _ => rfl) rfl

theorem fxInv_bothOpen : FxInv bothOpen :=
  fxInv_of_frameV _ (fun p hp h1 h2 => by
    cases p <;> first | rfl | exact absurd rfl h1 | exact absurd hp (by decide)) rfl

theorem pdInv_bothOpen : PdInv bothOpen where
  strlen_le := by decide
  nvalues_le := by decide
  canonical := by decide
  string := ⟨[], rfl, by simp⟩
  room := by decide
  fresh := by decide
  bare := by decide
  no_string_empty := by decide
  in_string := by decide
  open_at_opcode := by decide
  no_error := by decide
  opcode := by decide
  error_pd := by intro e h; cases h

theorem witness_DecodeOfEncodeIsTheInstruction :
    (Instr.fxId1Hex 0x66).WellFormed ∧
    (encode (.fxId1Hex 0x66)).context.admits .awaitIdChar1 .waitEnd = true := by decide

theorem witness_EncodeOfDecodeIsTheTransaction :
    decode .awaitCR .waitOpcode (.fxStep 0x0D) = .ok .fxCrCr := rfl

theorem witness_StepRunsTheDecodedInstruction :
    (frameV.present (.fxStep 0x23)).pending = .call (.fxStep 0x23) :: [] ∧
    decode frameV.fxState frameV.pdState (.fxStep 0x23) = .ok .fxStartHash := ⟨rfl, rfl⟩

theorem witness_CrcUpdatenUpdatesByteByByte :
    (∃ t, exec (.crcUpdate .host 0xFF) State.reset = .next t) ∧ 1 ≠ ([] : List Byte).length :=
  ⟨⟨_, rfl⟩, by decide⟩

theorem witness_CrcComputeIsStartUpdateFinalize :
    (∃ u v w, exec (.crcStart .host 0x00) State.reset = .next u ∧
      exec (.crcUpdaten .host [0xFF] 1) u = .next v ∧ exec (.crcFinalize .host) v = .next w) ∧
    0 ≠ [(0xFF : Byte)].length := ⟨⟨_, _, _, rfl, rfl, rfl⟩, by decide⟩

theorem witness_ChecksumIsLinearAndSelfCancelling : crcTable 0xFF = crcTable 0xFF := rfl

theorem witness_OneByteChangeChangesTheChecksum : (0x00 : Byte) ≠ 0x01 := by decide

theorem witness_StartMarkerOpensAFrame : frameV.fxState = .awaitStart := rfl

theorem witness_NoiseBeforeAFrameIsIgnored :
    frameV.fxState = .awaitStart ∧ (0x24 : Byte) ≠ 0x23 ∧ (0x22 : Byte) ≠ 0x23 := by decide

theorem witness_ColonEndsThePayload :
    (fxAt .awaitPayloadOrMetadata [0x56] 0x34).fxState = .awaitPayloadOrMetadata := rfl

/-- One byte of each of the ten classes. -/
theorem witness_FxErrorRowsRaiseTheirError :
    [Instr.fxPayEol 0x0A, .fxId1Bad 0x67, .fxId2Bad 0x60, .fxCk1Bad 0x2F, .fxCk2Bad 0x3A, .fxDum2Bad 0x79,
     .fxDum3Bad 0x77, .fxDum4Bad 0x00, .fxCrBad 0x0A, .fxLfBad 0x0D].all (fun i =>
      i.wellFormed && match fxErrorRow i with
        | some (st, _) => decide ((fxAt st [] 0).fxState = st)
        | none => false) = true := by decide

/-- The 58th byte, the 59th, and the bytes beside the reserved ones. -/
theorem witness_PayloadByteIsAppendedUpTo58 :
    ∃ s s' : State, s.fxState = .awaitPayloadOrMetadata ∧ s.fxLen = 57 ∧ s.fxLen < 58 ∧
      s'.fxState = .awaitPayloadOrMetadata ∧ s'.fxLen = 58 ∧
      ∀ c ∈ [(0x3B : Byte), 0x0E, 0x0B, 0x39, 0x00, 0xFF], c ≠ 0x3A ∧ c ≠ 0x0D ∧ c ≠ 0x0A :=
  ⟨{ State.reset with fxState := .awaitPayloadOrMetadata, fxLen := 57 },
   { State.reset with fxState := .awaitPayloadOrMetadata, fxLen := 58 }, by decide⟩

theorem witness_FirstIdDigitIsTaken :
    (fxAt .awaitIdChar1 [] 0).fxState = .awaitIdChar1 ∧
    [(0x30 : Byte), 0x39, 0x61, 0x66].all isHex = true := by decide

theorem witness_DummyMetadataHasNoId : (fxAt .awaitIdChar1 [] 0).fxState = .awaitIdChar1 := rfl

theorem witness_SecondIdDigitIsTaken :
    { fxAt .awaitIdChar2 [] 0 with fxId := 15 }.fxState = .awaitIdChar2 ∧ isHex 0x66 = true ∧
    { fxAt .awaitIdChar2 [] 0 with fxId := 15 }.fxId.toNat ≤ 15 := by decide

theorem witness_FirstChecksumDigitIsTaken :
    (fxAt .awaitChecksum1 [] 0).fxState = .awaitChecksum1 ∧ isHex 0x66 = true := by decide

/-- The claimed checksum `ff` against 0xFF and against 0xFE. -/
theorem witness_SecondChecksumDigitIsCompared :
    ∃ s s' : State, s.fxState = .awaitChecksum2 ∧ s.fxClaimed.toNat ≤ 15 ∧ isHex 0x66 = true ∧
      s.fxClaimed.toNat * 16 + hexNat 0x66 = s.fxCrc.toNat ∧
      s'.fxState = .awaitChecksum2 ∧ s'.fxClaimed.toNat ≤ 15 ∧
      s'.fxClaimed.toNat * 16 + hexNat 0x66 ≠ s'.fxCrc.toNat :=
  ⟨{ fxAt .awaitChecksum2 [] 0xFF with fxClaimed := 15 },
   { fxAt .awaitChecksum2 [] 0xFE with fxClaimed := 15 }, by decide⟩

theorem witness_DummyLettersMoveOn :
    [(Instr.fxDum2X, FxState.awaitDummy2, FxState.awaitDummy3), (.fxDum3X, .awaitDummy3, .awaitDummy4),
     (.fxDum4X, .awaitDummy4, .awaitCR)].all (fun x =>
      decide (fxDummyRow x.1 = some x.2) && decide ((fxAt x.2.1 [] 0).fxState = x.2.1)) = true := by decide

theorem witness_CarriageReturnTerminatesThePayload :
    ∃ s : State, s.fxState = .awaitCR ∧ s.fxLen = 58 ∧ s.fxLen ≤ 58 :=
  ⟨{ State.reset with fxState := .awaitCR, fxLen := 58 }, by decide⟩

theorem witness_LineFeedCompletesTheFrame : (fxAt .awaitLF [0x56] 0).fxState = .awaitLF := rfl

theorem witness_OpcodeStartsAMessage :
    messageV7.pdState = .waitOpcode ∧
    [(0x30 : Byte), 0x39, 0x3F, 0x41, 0x5A, 0x61, 0x7A].all isOpch = true := by decide

/-- One byte of each of the eight classes. -/
theorem witness_PdErrorRowsRaiseTheirError :
    [Instr.pdOpBad 0x40, .pdBeBad 0x5D, .pdValBad 0x2C, .pdDigBad 0x2D, .pdDcbBad 0x3A, .pdStrBad 0x00,
     .pdCbBad 0x22, .pdEndBad 0x01].all (fun i =>
      i.wellFormed && match pdErrorRow i with
        | some (st, _) => decide ((pdAt st).pdState = st)
        | none => false) = true := by decide

theorem witness_PunctuationMovesPd :
    [Instr.pdBeLbr, .pdStrQuote, .pdCbComma, .pdCbRbr].all (fun i =>
      match pdMoveRow i with
      | some (st, _) => decide ((pdAt st).pdState = st)
      | none => false) = true := by decide

theorem witness_NulCompletesTheMessage :
    (pdAt .waitBracketOrEnd).pdState = .waitBracketOrEnd ∧ (pdAt .waitEnd).pdState = .waitEnd :=
  ⟨rfl, rfl⟩

/-- With 11 values already. -/
theorem witness_FirstByteOfAnIntegerIsTaken :
    { strAt .waitValue [] with pdArgc := 10 }.pdState = .waitValue ∧
    { strAt .waitValue [] with pdArgc := 10 }.nvalues = 11 ∧
    { strAt .waitValue [] with pdArgc := 10 }.nvalues ≠ 12 ∧
    [(0x30 : Byte), 0x39].all isDigit = true := by decide

/-- With 11 integers and no string, and with 10 integers and the string. -/
theorem witness_QuoteOpensTheOnlyString :
    ∃ s s' : State, s.pdState = .waitValue ∧ s.nvalues = 11 ∧ s.nvalues ≠ 12 ∧ s.pdHasString = false ∧
      s'.pdState = .waitValue ∧ s'.nvalues = 11 ∧ s'.nvalues ≠ 12 ∧ s'.pdHasString = true :=
  ⟨{ pdAt .waitValue with pdArgc := 11 }, { strAt .waitValue [] with pdArgc := 10 }, by decide⟩

theorem witness_ThirteenthValueIsRefused :
    ∃ s : State, s.pdState = .waitValue ∧ s.nvalues = 12 ∧
      [Instr.pdValMinus, .pdValDigit 0x39, .pdValQuote].all
        (fun i => startsValue i && i.wellFormed) = true :=
  ⟨{ strAt .waitValue [] with pdArgc := 11 }, by decide⟩

theorem witness_DigitAfterMinusIsTaken :
    ∃ s : State, s.pdState = .waitDigit ∧ isDigit 0x39 = true ∧ s.pdAcc = 0 ∧ s.pdSign = .minus ∧
      -32768 ≤ 10 * s.pdAcc.toInt + s.pdSign.toInt * ((0x39 : Byte).toNat - 0x30 : Nat) ∧
      10 * s.pdAcc.toInt + s.pdSign.toInt * ((0x39 : Byte).toNat - 0x30 : Nat) ≤ 32767 :=
  ⟨{ pdAt .waitDigit with pdSign := .minus }, by decide⟩

/-- The exact values 32767, 32768, -32768 and -32769. -/
theorem witness_DigitAccumulatesWithinInt16 :
    ∃ s s' : State, s.pdState = .waitDigitsOrCommaOrBracket ∧ s'.pdState = .waitDigitsOrCommaOrBracket ∧
      [(0x37 : Byte), 0x38, 0x39].all isDigit = true ∧
      (32767 : Int) = 10 * s.pdAcc.toInt + s.pdSign.toInt * ((0x37 : Byte).toNat - 0x30 : Nat) ∧
      (32768 : Int) = 10 * s.pdAcc.toInt + s.pdSign.toInt * ((0x38 : Byte).toNat - 0x30 : Nat) ∧
      (-32768 : Int) = 10 * s'.pdAcc.toInt + s'.pdSign.toInt * ((0x38 : Byte).toNat - 0x30 : Nat) ∧
      (-32769 : Int) = 10 * s'.pdAcc.toInt + s'.pdSign.toInt * ((0x39 : Byte).toNat - 0x30 : Nat) :=
  ⟨{ pdAt .waitDigitsOrCommaOrBracket with pdAcc := 3276 },
   { pdAt .waitDigitsOrCommaOrBracket with pdAcc := BitVec.ofInt 16 (-3276), pdSign := .minus }, by decide⟩

theorem witness_EndOfIntegerIsStored :
    ∃ s : State, s.pdState = .waitDigitsOrCommaOrBracket ∧ s.pdArgc = 11 ∧ s.pdArgc ≤ 11 :=
  ⟨{ pdAt .waitDigitsOrCommaOrBracket with pdArgc := 11 }, by decide⟩

/-- The 32nd character and the 33rd. -/
theorem witness_StringCharIsStoredUpTo32 :
    ∃ s s' : State, s.pdState = .waitString ∧ s.pdStrlen = 31 ∧ s.pdStrlen < 32 ∧
      s'.pdState = .waitString ∧ s'.pdStrlen = 32 ∧ [(0x20 : Byte), 0x21, 0x25, 0x7D].all isStrch = true :=
  ⟨{ strAt .waitString [] with pdStrlen := 31 }, { strAt .waitString [] with pdStrlen := 32 }, by decide⟩

theorem witness_BlkDecodeFeedsPdUpToTheFirstEvent :
    FxInv frameV ∧ frameV.frameOpen = true ∧ frameV.HoldsPayload [0x56] :=
  ⟨fxInv_frameV, rfl, frameV_holds⟩

theorem witness_BlkDecodeDependsOnThePayloadAlone :
    FxInv frameV ∧ FxInv bothOpen ∧ frameV.frameOpen = true ∧ bothOpen.frameOpen = true ∧
    frameV.HoldsPayload [0x56] ∧ bothOpen.HoldsPayload [0x56] ∧
    (∃ t, exec .blkDecode frameV = .next t ∧ t.response = .event .messageComplete) ∧
    ∃ t, exec .blkDecode bothOpen = .next t :=
  ⟨fxInv_frameV, fxInv_bothOpen, rfl, rfl, frameV_holds, frameV_holds, ⟨_, rfl, rfl⟩, ⟨_, rfl⟩⟩

theorem witness_UseOutsideAWindowIsRefused :
    State.reset.frameOpen = false ∧ State.reset.msgOpen = false ∧
    { State.reset with pending := [.read .frameOutput] }.pending = .read .frameOutput :: [] ∧
    { State.reset with pending := [.read .messageOutput] }.pending = .read .messageOutput :: [] := by
  decide

theorem witness_FrameOutputIsDelivered :
    { State.reset with pending := [.read .fxError] }.pending = .read .fxError :: [] ∧
    { frameV with pending := [.read .frameOutput] }.frameOpen = true ∧
    { frameV with pending := [.read .frameOutput] }.pending = .read .frameOutput :: [] ∧
    FxInv { frameV with pending := [.read .frameOutput] } ∧
    { frameV with pending := [.read .frameOutput] }.HoldsPayload [0x56] :=
  ⟨rfl, rfl, rfl, fxInv_of_frameV _ (fun p hp h1 h2 => by
    cases p <;> first | rfl | exact absurd rfl h1 | exact absurd hp (by decide)) rfl, frameV_holds⟩

theorem witness_MessageOutputIsDelivered :
    { State.reset with pending := [.read .pdError] }.pending = .read .pdError :: [] ∧
    PdInv { bothOpen with pending := [.read .messageOutput] } ∧
    { bothOpen with pending := [.read .messageOutput] }.msgOpen = true ∧
    { bothOpen with pending := [.read .messageOutput] }.pending = .read .messageOutput :: [] :=
  ⟨rfl, { pdInv_bothOpen with }, rfl, rfl⟩

theorem witness_ByteSpacesStayCanonical :
    (frameV.present (.fxStep 0x23)).payload.wf Config.payloadCap = true ∧
    (frameV.present (.fxStep 0x23)).str.wf Config.maxString = true ∧
    ∃ t, step (frameV.present (.fxStep 0x23)) = .next t := ⟨by decide, by decide, ⟨_, rfl⟩⟩

theorem witness_EveryStepKeepsFxInOrder :
    FxInv (frameV.present (.fxStep 0x23)) ∧ ∃ t, step (frameV.present (.fxStep 0x23)) = .next t :=
  ⟨fxInv_of_frameV _ (fun p hp h1 h2 => by
    cases p <;> first | rfl | exact absurd rfl h1 | exact absurd hp (by decide)) rfl, ⟨_, rfl⟩⟩

theorem witness_EveryStepKeepsPdInOrder :
    PdInv (bothOpen.present (.pdStep 0x56)) ∧ ∃ t, step (bothOpen.present (.pdStep 0x56)) = .next t :=
  ⟨{ pdInv_bothOpen with }, ⟨_, rfl⟩⟩

/-- In good order, with a proper request and with a misuse. -/
theorem witness_OnlyMisuseStopsTheBlock :
    BlockInv bothOpen ∧ (bothOpen.present (.crcCompute [0x23] 2)).misused = true ∧
    (bothOpen.present .blkDecode).misused = false := ⟨⟨fxInv_bothOpen, pdInv_bothOpen⟩, by decide, by decide⟩

theorem witness_FxStepIsTotal : ∃ s : State, s.fxState = .awaitCR ∧ s.fxLen = 58 ∧ s.fxLen ≤ 58 :=
  ⟨{ State.reset with fxState := .awaitCR, fxLen := 58 }, by decide⟩

theorem witness_PdStepIsTotal : PdInv bothOpen := pdInv_bothOpen

/-- A call on PD leaves FX alone, and a call on FX leaves PD alone. -/
theorem witness_EachMachineIsWrittenByItsOwnCalls :
    (∃ t, step (frameV.present (.pdStep 0x56)) = .next t) ∧
    (∃ t, step (frameV.present (.fxStep 0x23)) = .next t) ∧
    (frameV.present (.pdStep 0x56)).pending.head? = some (.call (.pdStep 0x56)) ∧
    (frameV.present (.fxStep 0x23)).pending.head? = some (.call (.fxStep 0x23)) :=
  ⟨⟨_, rfl⟩, ⟨_, rfl⟩, rfl, rfl⟩

/-- A step that opens the frame window, one that closes it, one that opens the message window, and
one that closes it. -/
theorem witness_WindowsOpenOnCompletion :
    FxInv (frameV.present (.fxStep 0x23)) ∧
    after (.fxStep 0x0A) { frameV with fxState := .awaitLF, frameOpen := false } (·.frameOpen) = some true ∧
    after (.fxStep 0x23) frameV (·.frameOpen) = some false ∧
    after .blkDecode frameV (·.msgOpen) = some true ∧
    after (.pdStep 0x5F) bothOpen (·.msgOpen) = some false :=
  ⟨witness_EveryStepKeepsFxInOrder.1, by decide, by decide, by decide, by decide⟩

/-- The longest payload; the frame statements share it. -/
theorem witness_EveryFormAFrameIsDelivered :
    frameV.fxState = .awaitStart ∧ IsPayload (List.replicate 58 0xFF) := by
  unfold IsPayload; decide

theorem witness_EveryDummyFrameIsDelivered :
    frameV.fxState = .awaitStart ∧ IsPayload ([] : List Byte) := by unfold IsPayload; decide

/-- The shortest frame, `#:xxxx\r\n`. -/
theorem witness_OnlyFramesComplete :
    State.reset.fxState = .awaitStart ∧ (frameB []).head? = some 0x23 ∧
    ∃ t, feed .fxStep (frameB []) State.reset = some (firstEventLast 7 .frameComplete, t) :=
  ⟨rfl, rfl, ⟨_, rfl⟩⟩

/-- The first covered byte after the marker and the last one. -/
theorem witness_OneCorruptedCoveredByteIsDetected :
    State.reset.fxState = .awaitStart ∧ IsPayload [0x56] ∧ (frameA [0x56] 10)[1]? ≠ some 0x57 ∧
    (frameA [0x56] 10)[4]? ≠ some 0x62 :=
  ⟨rfl, isPayload_V, by decide +kernel, by decide +kernel⟩

theorem witness_FrameAfterNoiseIsDelivered :
    State.reset.fxState = .awaitStart ∧ (∀ c ∈ [(0x0D : Byte), 0x0A, 0x3A], c ≠ 0x23) ∧
    IsPayload (List.replicate 58 0x23) := by unfold IsPayload; decide

/-- Twelve values: eleven times -32768, and a string of 32 characters. -/
theorem witness_EveryMessageIsDelivered :
    messageV7.pdState = .waitOpcode ∧
    IsMessage 0x7A (MsgValue.str (List.replicate 32 0x7D) ::
      List.replicate 11 (MsgValue.int true [0x33, 0x32, 0x37, 0x36, 0x38])) := by
  refine ⟨rfl, by decide, by decide, by decide, fun v hv => ?_⟩
  rcases List.mem_cons.mp hv with rfl | hv
  · exact ⟨by decide, by decide⟩
  · rw [List.eq_of_mem_replicate hv]
    exact ⟨by decide, by decide, by decide⟩

/-- The shortest message, `V\0`. -/
theorem witness_OnlyMessagesComplete :
    State.reset.pdState = .waitOpcode ∧
    ∃ t, feed .pdStep [0x56, 0x00] State.reset = some (firstEventLast 1 .messageComplete, t) :=
  ⟨rfl, ⟨_, rfl⟩⟩

end Sys2Proof.Tests
end

section
/-! SUPPORT. The frame predicate `OnlyWrites` composes along updates, and the frame of the two
updates the Checksum operations are made of: `setCrc` and `respond`. -/

namespace Sys2Proof.Machine

theorem Part.Same.trans {p : Part} {s t u : State} (hst : p.Same s t) (htu : p.Same t u) :
    p.Same s u := by
  cases p
  case payload => exact fun a => (htu a).trans (hst a)
  case str => exact fun a => (htu a).trans (hst a)
  all_goals exact Eq.trans htu hst

theorem OnlyWrites.trans {ws vs : List Part} {s t u : State} (hst : OnlyWrites ws s t)
    (htu : OnlyWrites vs t u) : OnlyWrites (ws ++ vs) s u := by
  intro p hp
  obtain ⟨hws, hvs⟩ : p ∉ ws ∧ p ∉ vs := by simpa using hp
  exact (hst p hws).trans (htu p hvs)

theorem onlyWrites_respond (s : State) (r : Response) : OnlyWrites [.response] s (s.respond r) := by
  intro p hp
  cases p
  case response => exact absurd (List.mem_singleton_self _) hp
  all_goals simp [Part.Same]

theorem onlyWrites_setCrc (s : State) (acc : Accumulator) (v : Byte) :
    OnlyWrites [accumulatorPart acc] s (s.setCrc acc v) := by
  intro p hp
  cases acc with
  | fx =>
    cases p
    case fxCrc => exact absurd (List.mem_singleton_self _) hp
    all_goals simp [Part.Same]
  | host =>
    cases p
    case hostCrc => exact absurd (List.mem_singleton_self _) hp
    all_goals simp [Part.Same]

theorem onlyWrites_setCrc_respond (s : State) (acc : Accumulator) (v : Byte) (r : Response) :
    OnlyWrites [accumulatorPart acc, .response] s ((s.setCrc acc v).respond r) :=
  (onlyWrites_setCrc s acc v).trans (onlyWrites_respond _ r)

@[simp] theorem State.crc_setCrc (s : State) (acc : Accumulator) (v : Byte) :
    (s.setCrc acc v).crc acc = v := by
  cases acc <;> rfl

@[simp] theorem State.crc_respond (s : State) (acc : Accumulator) (r : Response) :
    (s.respond r).crc acc = s.crc acc := by
  cases acc <;> rfl

end Sys2Proof.Machine
end

section
/-! Proofs of the statements about the Checksum unit's table, CRC.START and CRC.UPDATE
(40_checksum.md R110 to R112). -/

namespace Sys2Proof.Machine

/-! ## The table -/

/-- The top bit that R110 tests is bit 7 of the byte. -/
theorem crcShift_eq (v : Byte) :
    crcShift v = if v.getLsbD 7 then (v <<< 1) ^^^ 0x07 else v <<< 1 := by
  have htop : v.msb = v.getLsbD 7 := BitVec.msb_eq_getLsbD_last v
  rw [crcShift, htop, Config.crcPoly]

theorem crcTable_eq_iterate (i : Byte) : crcTable i = crcShift^[8] i := rfl

/-- Settles O9: the table iterates the model's shift, and that shift is R110's. -/
theorem checksumTableConstruction : Obligations.ChecksumTableConstruction := by
  refine ⟨fun i => ?_, by decide, by decide, by decide, by decide, by decide⟩
  rw [crcTable_eq_iterate, funext crcShift_eq]

/-! ## CRC.START and CRC.UPDATE -/

theorem exec_crcStart (acc : Accumulator) (seed : Byte) (s : State) :
    exec (.crcStart acc seed) s = .next ((s.setCrc acc seed).respond .done) := rfl

theorem exec_crcUpdate (acc : Accumulator) (b : Byte) (s : State) :
    exec (.crcUpdate acc b) s =
      .next ((s.setCrc acc (crcTable (s.crc acc ^^^ b))).respond .done) := rfl

/-- The two operations differ only in the value they load. -/
theorem completes_setCrc_respond_done (acc : Accumulator) (v : Byte) (s : State) :
    Completes (.next ((s.setCrc acc v).respond .done)) fun t =>
      t.crc acc = v ∧ t.response = .done ∧ OnlyWrites [accumulatorPart acc, .response] s t :=
  ⟨_, rfl, by simp, State.respond_response _ _, onlyWrites_setCrc_respond s acc v .done⟩

/-- Settles O10: CRC.START loads the seed itself. -/
theorem crcStartLoadsTheSeed : Obligations.CrcStartLoadsTheSeed := by
  intro acc seed s
  rw [exec_crcStart]
  exact completes_setCrc_respond_done acc seed s

/-- Settles O11: CRC.UPDATE loads the table's entry at `acc ^ b`. -/
theorem crcUpdateLooksUpTheTable : Obligations.CrcUpdateLooksUpTheTable := by
  intro acc b s
  rw [exec_crcUpdate]
  exact completes_setCrc_respond_done acc (crcTable (s.crc acc ^^^ b)) s

end Sys2Proof.Machine
end

section
/-! The frame of each update an FX row is made of, what the rows do once they are selected, and the
value of a hexadecimal digit (41_frame_extractor.md). -/

namespace Sys2Proof.Machine

/-! ## Frames of the updates -/

/-- A frame is checked piece by piece: each piece is listed or the same. -/
theorem onlyWrites_of_mem_or_same {ws : List Part} {s t : State}
    (h : ∀ p : Part, p ∈ ws ∨ p.Same s t) : OnlyWrites ws s t :=
  fun p hp => (h p).resolve_left hp

theorem onlyWrites_emit (s : State) (e : Event) : OnlyWrites [.response] s (s.emit e) :=
  onlyWrites_respond s (.event e)

theorem onlyWrites_fxGoto (s : State) (st : FxState) : OnlyWrites [.fxState] s (s.fxGoto st) :=
  onlyWrites_of_mem_or_same fun p => by cases p <;> simp [Part.Same]

theorem onlyWrites_openFrame (s : State) : OnlyWrites [.frameOpen] s s.openFrame :=
  onlyWrites_of_mem_or_same fun p => by cases p <;> simp [Part.Same]

theorem onlyWrites_raiseFx (s : State) (e : ErrorName) :
    OnlyWrites fxRaiseParts s (s.raise .fx e) :=
  onlyWrites_of_mem_or_same fun p => by cases p <;> simp [Part.Same, fxRaiseParts]

theorem onlyWrites_fxHasId (s : State) (b : Bool) :
    OnlyWrites [.fxHasId] s { s with fxHasId := b } :=
  onlyWrites_of_mem_or_same fun p => by cases p <;> simp [Part.Same]

theorem onlyWrites_fxId (s : State) (v : Byte) : OnlyWrites [.fxId] s { s with fxId := v } :=
  onlyWrites_of_mem_or_same fun p => by cases p <;> simp [Part.Same]

theorem onlyWrites_fxClaimed (s : State) (v : Byte) :
    OnlyWrites [.fxClaimed] s { s with fxClaimed := v } :=
  onlyWrites_of_mem_or_same fun p => by cases p <;> simp [Part.Same]

theorem onlyWrites_payload_fxLen (s : State) (m : Memory) (n : Nat) :
    OnlyWrites [.payload, .fxLen] s { s with payload := m, fxLen := n } :=
  onlyWrites_of_mem_or_same fun p => by cases p <;> simp [Part.Same]

/-- The checksum update by which FX covers a byte. -/
theorem onlyWrites_crcUpdate (s : State) (b : Byte) : OnlyWrites [.fxCrc] s (s.crcUpdate .fx b) :=
  onlyWrites_setCrc s .fx _

/-- The close of a row that moves on: its own writes, then the state and the event. -/
theorem OnlyWrites.fxGoto_emit {ws : List Part} {s u : State} (h : OnlyWrites ws s u)
    (st : FxState) (e : Event) :
    OnlyWrites (ws ++ [.fxState, .response]) s ((u.fxGoto st).emit e) :=
  h.trans ((onlyWrites_fxGoto u st).trans (onlyWrites_emit _ e))

/-! ## The ten error rows and the three dummy rows -/

/-- An error row is its state, its class and its `raise`, whichever of the ten it is. -/
theorem exec_of_fxErrorRow {i : Instr} {st : FxState} {e : ErrorName}
    (h : fxErrorRow i = some (st, e)) (s : State) :
    exec i s = onFx st i.wellFormed s (raising .fx e s) := by
  unfold fxErrorRow at h
  split at h <;> cases h <;> rfl

theorem exec_of_fxDummyRow {i : Instr} {st next : FxState}
    (h : fxDummyRow i = some (st, next)) (s : State) :
    exec i s = onFx st true s (fxMove next s) := by
  unfold fxDummyRow at h
  split at h <;> cases h <;> rfl

theorem completes_raising_fx (e : ErrorName) (s : State) :
    Completes (raising .fx e s) fun t => FxRaised e t ∧ OnlyWrites fxRaiseParts s t :=
  ⟨_, rfl,
    ⟨State.raiseFx_fxError s e, State.raiseFx_fxState s e, State.raiseFx_response s e⟩,
    onlyWrites_raiseFx s e⟩

/-! ## The other rows, in their own state and class -/

variable {s : State} {c : Byte}

theorem exec_fxStartSkip (h : s.fxState = .awaitStart) (hc : isNotHash c = true) :
    exec (.fxStartSkip c) s = .next (s.emit .quiet) := onFx_selected _ h hc

theorem exec_fxPayColon (h : s.fxState = .awaitPayloadOrMetadata) :
    exec .fxPayColon s = fxMove .awaitIdChar1 (s.crcUpdate .fx colon) := onFx_selected _ h rfl

/-- Below the limit the byte is stored, counted and covered. -/
theorem exec_fxPayAppend_below (h : s.fxState = .awaitPayloadOrMetadata)
    (hc : isPayloadByte c = true) (hlen : s.fxLen < 58) :
    exec (.fxPayAppend c) s =
      .next (({ s with payload := s.payload.write s.fxLen c, fxLen := s.fxLen + 1 }.crcUpdate
        .fx c).emit .quiet) := by
  have hmax : s.fxLen ≠ Config.maxPayload := Nat.ne_of_lt hlen
  have hroom : s.fxLen < 59 := by omega
  exact (onFx_selected _ h hc).trans ((if_neg hmax).trans (storePayload_in hroom))

/-- At the limit the byte is neither stored nor covered. -/
theorem exec_fxPayAppend_full (h : s.fxState = .awaitPayloadOrMetadata)
    (hc : isPayloadByte c = true) (hlen : s.fxLen = 58) :
    exec (.fxPayAppend c) s = raising .fx .frameTooLong s :=
  (onFx_selected _ h hc).trans (if_pos hlen)

theorem exec_fxId1X (h : s.fxState = .awaitIdChar1) :
    exec .fxId1X s = fxMove .awaitDummy2 { s with fxHasId := false } := onFx_selected _ h rfl

theorem exec_fxId1Hex (h : s.fxState = .awaitIdChar1) (hc : isHex c = true) :
    exec (.fxId1Hex c) s =
      fxMove .awaitIdChar2 ({ s with fxHasId := true, fxId := hexVal c }.crcUpdate .fx c) :=
  onFx_selected _ h hc

theorem exec_fxId2Hex (h : s.fxState = .awaitIdChar2) (hc : isHex c = true) :
    exec (.fxId2Hex c) s =
      fxMove .awaitChecksum1 ({ s with fxId := s.fxId * 16 + hexVal c }.crcUpdate .fx c) :=
  onFx_selected _ h hc

theorem exec_fxCk1Hex (h : s.fxState = .awaitChecksum1) (hc : isHex c = true) :
    exec (.fxCk1Hex c) s = fxMove .awaitChecksum2 { s with fxClaimed := hexVal c } :=
  onFx_selected _ h hc

theorem exec_fxLfLf (h : s.fxState = .awaitLF) :
    exec .fxLfLf s = .next (((s.fxGoto .awaitStart).openFrame).emit .frameComplete) :=
  onFx_selected _ h rfl

/-! ## Byte classes and digits -/

theorem isPayloadByte_of_ne (hcolon : c ≠ 0x3A) (hcr : c ≠ 0x0D) (hlf : c ≠ 0x0A) :
    isPayloadByte c = true := by
  simpa [isPayloadByte, isEol, colon, cr, lf] using And.intro hcolon (And.intro hcr hlf)

theorem isDigit_iff : isDigit c = true ↔ 0x30 ≤ c.toNat ∧ c.toNat ≤ 0x39 := by
  simp [isDigit, inRange]

theorem isHex_iff :
    isHex c = true ↔ isDigit c = true ∨ (0x61 ≤ c.toNat ∧ c.toNat ≤ 0x66) := by
  simp [isHex, inRange]

/-- The model's `hexval` is the one of R17. -/
theorem hexVal_toNat (hc : isHex c = true) : (hexVal c).toNat = hexNat c := by
  rcases isHex_iff.mp hc with hdigit | ⟨hlo, hhi⟩
  · obtain ⟨hlo, hhi⟩ := isDigit_iff.mp hdigit
    rw [hexVal, hexNat, if_pos hdigit, if_pos hhi]
    bv_omega
  · have hletter : ¬ c.toNat ≤ 0x39 := by omega
    have hdigit : ¬ isDigit c = true := fun h => hletter (isDigit_iff.mp h).2
    rw [hexVal, hexNat, if_neg hdigit, if_neg hletter]
    bv_omega

theorem hexNat_le (hc : isHex c = true) : hexNat c ≤ 15 := by
  rw [hexNat]
  rcases isHex_iff.mp hc with hdigit | ⟨hlo, hhi⟩
  · obtain ⟨hlo, hhi⟩ := isDigit_iff.mp hdigit
    rw [if_pos hhi]
    omega
  · rw [if_neg (by omega)]
    omega

/-- Two digits fit the byte: R129's and R133's sum does not overflow. -/
theorem toNat_mul_16_add {hi lo : Byte} (hhi : hi.toNat ≤ 15) (hlo : lo.toNat ≤ 15) :
    (hi * 16 + lo).toNat = hi.toNat * 16 + lo.toNat := by
  bv_omega

end Sys2Proof.Machine
end

section
/-! Proofs of the statements about the rows of the Frame Extractor
(41_frame_extractor.md R121 to R145). -/

namespace Sys2Proof.Machine

/-- Settles O20: the ten rows are one selection and one `raise`. -/
theorem fxErrorRowsRaiseTheirError : Obligations.FxErrorRowsRaiseTheirError := by
  intro i st e s hrow hwf hst
  rw [exec_of_fxErrorRow hrow, onFx_selected _ hst hwf]
  exact completes_raising_fx e s

/-- Settles O18: the row only hands back the event. -/
theorem noiseBeforeAFrameIsIgnored : Obligations.NoiseBeforeAFrameIsIgnored := by
  intro s c hst hc
  have hclass : isNotHash c = true := bne_iff_ne.mpr hc
  exact ⟨_, exec_fxStartSkip hst hclass, State.emit_response s _, onlyWrites_emit s _⟩

/-- Settles O19: the colon is covered and not stored. -/
theorem colonEndsThePayload : Obligations.ColonEndsThePayload := by
  intro s hst
  exact ⟨_, exec_fxPayColon hst, rfl, rfl, rfl, (onlyWrites_crcUpdate s colon).fxGoto_emit _ _⟩

/-- Settles O21: by the length, one below the limit and one at it. -/
theorem payloadByteIsAppendedUpTo58 : Obligations.PayloadByteIsAppendedUpTo58 := by
  intro s c hst hcolon hcr hlf
  have hclass : isPayloadByte c = true := isPayloadByte_of_ne hcolon hcr hlf
  refine ⟨fun hbelow => ?_, fun hfull => ?_⟩
  · have hframe := (onlyWrites_payload_fxLen s (s.payload.write s.fxLen c) (s.fxLen + 1)).trans
      ((onlyWrites_crcUpdate _ c).trans (onlyWrites_emit _ .quiet))
    exact ⟨_, exec_fxPayAppend_below hst hclass hbelow,
      Memory.read_write_same s.payload s.fxLen c,
      fun _ ha => Memory.read_write_other s.payload c ha, rfl, rfl, rfl, hframe⟩
  · rw [exec_fxPayAppend_full hst hclass hfull]
    exact completes_raising_fx .frameTooLong s

/-- Settles O22: in good order no id was taken before its first character. -/
theorem dummyMetadataHasNoId : Obligations.DummyMetadataHasNoId := by
  intro s hst
  have hzero (hinv : FxInv s) : s.fxId = 0 := hinv.no_id_zero (hinv.without_id (.inr (.inl hst)))
  exact ⟨_, exec_fxId1X hst, rfl, rfl, rfl, hzero, (onlyWrites_fxHasId s false).fxGoto_emit _ _⟩

/-- Settles O23: the value goes to the id, the character to the checksum. -/
theorem firstIdDigitIsTaken : Obligations.FirstIdDigitIsTaken := by
  intro s c hst hc
  have hframe := (onlyWrites_fxHasId s true).trans
    ((onlyWrites_fxId _ (hexVal c)).trans (onlyWrites_crcUpdate _ c))
  exact ⟨_, exec_fxId1Hex hst hc, rfl, hexVal_toNat hc, rfl, rfl, rfl,
    hframe.fxGoto_emit _ _⟩

/-- Settles O24: two one-digit values make a byte without overflow. -/
theorem secondIdDigitIsTaken : Obligations.SecondIdDigitIsTaken := by
  intro s c hst hc hid
  have hdigit : (hexVal c).toNat ≤ 15 := hexVal_toNat hc ▸ hexNat_le hc
  have hsum : (s.fxId * 16 + hexVal c).toNat = s.fxId.toNat * 16 + hexNat c := by
    rw [toNat_mul_16_add hid hdigit, hexVal_toNat hc]
  have hframe := (onlyWrites_fxId s (s.fxId * 16 + hexVal c)).trans (onlyWrites_crcUpdate _ c)
  exact ⟨_, exec_fxId2Hex hst hc, hsum, rfl, rfl, rfl, hframe.fxGoto_emit _ _⟩

/-- Settles O25: the digit's value is claimed, and its character is not covered. -/
theorem firstChecksumDigitIsTaken : Obligations.FirstChecksumDigitIsTaken := by
  intro s c hst hc
  exact ⟨_, exec_fxCk1Hex hst hc, hexVal_toNat hc, rfl, rfl,
    (onlyWrites_fxClaimed s (hexVal c)).fxGoto_emit _ _⟩

/-- Settles O27: each of the three rows is one selection and one move. -/
theorem dummyLettersMoveOn : Obligations.DummyLettersMoveOn := by
  intro i st next s hrow hst
  rw [exec_of_fxDummyRow hrow, onFx_selected _ hst rfl]
  exact ⟨_, rfl, rfl, rfl, (onlyWrites_fxGoto s next).trans (onlyWrites_emit _ _)⟩

/-- Settles O29: an error within a frame would have left `AwaitLF`. -/
theorem lineFeedCompletesTheFrame : Obligations.LineFeedCompletesTheFrame := by
  intro s hst
  have hnone (hinv : FxInv s) : s.fxError = none := hinv.no_error (.inl (by simp [hst]))
  have hframe := (onlyWrites_fxGoto s .awaitStart).trans
    ((onlyWrites_openFrame _).trans (onlyWrites_emit _ .frameComplete))
  exact ⟨_, exec_fxLfLf hst, rfl, rfl, rfl, hnone, hframe⟩

end Sys2Proof.Machine
end

section
/-! The frame of each update a PD row is made of, what the rows do once they are selected, and the
exact value of a decimal digit (42_payload_decoder.md). -/

namespace Sys2Proof.Machine

/-! ## Frames of the updates -/

theorem onlyWrites_pdGoto (s : State) (st : PdState) : OnlyWrites [.pdState] s (s.pdGoto st) :=
  onlyWrites_of_mem_or_same fun p => by cases p <;> simp [Part.Same]

theorem onlyWrites_openMessage (s : State) : OnlyWrites [.msgOpen] s s.openMessage :=
  onlyWrites_of_mem_or_same fun p => by cases p <;> simp [Part.Same]

/-- A digit taken under the sign that stands there already writes the value alone. -/
theorem onlyWrites_setValue_keepSign (s : State) (v : Int16Bits) :
    OnlyWrites [.pdAcc] s (s.setValue s.pdSign v) :=
  onlyWrites_of_mem_or_same fun p => by cases p <;> simp [Part.Same]

theorem onlyWrites_args_pdArgc (s : State) (values : Vector Int16Bits Config.maxArgs) (n : Nat) :
    OnlyWrites [.args, .pdArgc] s { s with args := values, pdArgc := n } :=
  onlyWrites_of_mem_or_same fun p => by cases p <;> simp [Part.Same]

/-- The close of a row that moves on: its own writes, then the state and the event. -/
theorem OnlyWrites.pdGoto_emit {ws : List Part} {s u : State} (h : OnlyWrites ws s u)
    (st : PdState) (e : Event) :
    OnlyWrites (ws ++ [.pdState, .response]) s ((u.pdGoto st).emit e) :=
  h.trans ((onlyWrites_pdGoto u st).trans (onlyWrites_emit _ e))

theorem onlyWrites_completeMessage (s : State) :
    OnlyWrites [.pdState, .msgOpen, .response] s
      (((s.pdGoto .waitOpcode).openMessage).emit .messageComplete) :=
  (onlyWrites_pdGoto s .waitOpcode).trans
    ((onlyWrites_openMessage _).trans (onlyWrites_emit _ .messageComplete))

/-! ## The exact value of a digit -/

theorem decVal_of_isDigit {c : Byte} (hc : isDigit c = true) :
    decVal c = (c.toNat - 0x30 : Nat) := by
  obtain ⟨hlo, -⟩ := isDigit_iff.mp hc
  exact (Int.ofNat_sub hlo).symm

/-- In the range of `int16` the register holds the exact value. -/
theorem toInt_toInt16 {v : Int} (hlo : -32768 ≤ v) (hhi : v ≤ 32767) : (toInt16 v).toInt = v :=
  BitVec.toInt_ofInt_eq_self (by decide) hlo (Int.lt_add_one_of_le hhi)

/-- Right after the minus sign the next value is minus the digit. -/
theorem State.nextValue_of_fresh {s : State} (hacc : s.pdAcc = 0) (hsign : s.pdSign = .minus)
    (d : Int) : s.nextValue d = -d := by
  simp [State.nextValue, Sign.toInt, hacc, hsign]

/-! ## The end of an integer -/

/-- While there is room the integer goes to the first free entry of ARGS. -/
theorem completes_endInteger (st : PdState) {s : State} (hroom : s.pdArgc ≤ 11) :
    Completes (endInteger st s) fun t =>
      t.args[s.pdArgc]? = some s.pdAcc ∧ (∀ k, k ≠ s.pdArgc → t.args[k]? = s.args[k]?) ∧
      t.pdArgc = s.pdArgc + 1 ∧ t.pdState = st ∧ t.response = .event .quiet ∧
      OnlyWrites [.args, .pdArgc, .pdState, .response] s t := by
  have hk : s.pdArgc < 12 := Nat.lt_succ_of_le hroom
  exact ⟨_, storeArg_in hk, Vector.getElem?_set_self hk,
    fun _ hne => Vector.getElem?_set_ne hk hne.symm, rfl, rfl, rfl,
    (onlyWrites_args_pdArgc s _ _).pdGoto_emit st .quiet⟩

/-! ## The rows, in their own state and class -/

/-- A move row is its state and its move, whichever of the four it is. -/
theorem exec_of_pdMoveRow {i : Instr} {st next : PdState} (h : pdMoveRow i = some (st, next))
    (s : State) : exec i s = onPd st true s (pdMove next s) := by
  unfold pdMoveRow at h
  split at h <;> cases h <;> rfl

variable {s : State} {c : Byte}

theorem exec_pdBeNul (h : s.pdState = .waitBracketOrEnd) : exec .pdBeNul s = completeMessage s :=
  onPd_selected _ h rfl

theorem exec_pdEndNul (h : s.pdState = .waitEnd) : exec .pdEndNul s = completeMessage s :=
  onPd_selected _ h rfl

theorem exec_pdDigDigit (h : s.pdState = .waitDigit) (hc : isDigit c = true) :
    exec (.pdDigDigit c) s =
      pdMove .waitDigitsOrCommaOrBracket
        (s.setValue s.pdSign (toInt16 (s.nextValue (decVal c)))) :=
  onPd_selected _ h hc

theorem exec_pdDcbComma (h : s.pdState = .waitDigitsOrCommaOrBracket) :
    exec .pdDcbComma s = endInteger .waitValue s := onPd_selected _ h rfl

theorem exec_pdDcbRbr (h : s.pdState = .waitDigitsOrCommaOrBracket) :
    exec .pdDcbRbr s = endInteger .waitEnd s := onPd_selected _ h rfl

end Sys2Proof.Machine
end

section
/-! Proofs of the statements about the rows of the Payload Decoder
(42_payload_decoder.md R152 to R171). -/

namespace Sys2Proof.Machine

/-- Settles O32: each of the four rows is one selection and one move. -/
theorem punctuationMovesPd : Obligations.PunctuationMovesPd := by
  intro i st next s hrow hst
  rw [exec_of_pdMoveRow hrow, onPd_selected _ hst rfl]
  exact ⟨_, rfl, rfl, rfl, (onlyWrites_pdGoto s next).trans (onlyWrites_emit _ .quiet)⟩

/-- Settles O33: an error within a message would have left the state, and right after the opcode
there is no value yet. -/
theorem nulCompletesTheMessage : Obligations.NulCompletesTheMessage := by
  intro i s hrow
  have hinside : s.pdState ≠ .waitOpcode := by
    rcases hrow with ⟨-, hst⟩ | ⟨-, hst⟩ <;> simp [hst]
  have hnone (hinv : PdInv s) : s.pdError = none := hinv.no_error (.inl hinside)
  have hframe := onlyWrites_completeMessage s
  rcases hrow with ⟨rfl, hst⟩ | ⟨rfl, hst⟩
  · exact ⟨_, exec_pdBeNul hst, rfl, rfl, rfl,
      fun hinv => ⟨hnone hinv, fun _ => hinv.bare hst⟩, hframe⟩
  · exact ⟨_, exec_pdEndNul hst, rfl, rfl, rfl, fun hinv => ⟨hnone hinv, nofun⟩, hframe⟩

/-- Settles O37: the register holds the exact value, which is in range. -/
theorem digitAfterMinusIsTaken : Obligations.DigitAfterMinusIsTaken := by
  intro s c hst hc hlo hhi
  rw [← decVal_of_isDigit hc] at hlo hhi ⊢
  have hvalue : (toInt16 (s.nextValue (decVal c))).toInt = s.nextValue (decVal c) :=
    toInt_toInt16 hlo hhi
  exact ⟨_, exec_pdDigDigit hst hc, hvalue,
    fun hacc hsign => hvalue.trans (State.nextValue_of_fresh hacc hsign _), rfl, rfl,
    (onlyWrites_setValue_keepSign s _).pdGoto_emit _ _⟩

/-- Settles O39: both rows end the integer, and differ only in the state PD goes on in. -/
theorem endOfIntegerIsStored : Obligations.EndOfIntegerIsStored := by
  rintro i next s (⟨rfl, rfl⟩ | ⟨rfl, rfl⟩) hst hroom
  · rw [exec_pdDcbComma hst]
    exact completes_endInteger .waitValue hroom
  · rw [exec_pdDcbRbr hst]
    exact completes_endInteger .waitEnd hroom

end Sys2Proof.Machine
end

section
/-! Proofs of the statements about decoding and stepping (30_encoding.md sections 5 to 7): each
machine's row decoder against the encoder, in both directions. -/

namespace Sys2Proof.Machine

/-! ## The classes a state tests one after the other do not overlap -/

theorem ne_colon_of_isEol {c : Byte} (hc : isEol c = true) : c ≠ colon := by
  rintro rfl
  exact absurd hc (by decide)

theorem ne_lx_of_isHex {c : Byte} (hc : isHex c = true) : c ≠ lx := by
  rintro rfl
  exact absurd hc (by decide)

theorem ne_minus_of_isDigit {c : Byte} (hc : isDigit c = true) : c ≠ minus := by
  rintro rfl
  exact absurd hc (by decide)

theorem ne_quote_of_isStrch {c : Byte} (hc : isStrch c = true) : c ≠ quote := by
  rintro rfl
  exact absurd hc (by decide)

theorem isPayloadByte_iff {c : Byte} : isPayloadByte c = true ↔ c ≠ colon ∧ isEol c = false := by
  simp [isPayloadByte]

/-! ## One machine's rows -/

/-- The FX row that a byte selects is well formed and is encoded by that state and byte. -/
theorem decodeFx_sound (st : FxState) (c : Byte) :
    (decodeFx st c).WellFormed ∧ encode (decodeFx st c) = ⟨.fx st, .fxStep c⟩ := by
  cases st <;> simp only [decodeFx] <;> (repeat' split)
  all_goals
    simp_all [Instr.WellFormed, Instr.wellFormed, encode, isNotHash, isPayloadByte, isNotLxNorHex,
      isNotHex, isNotLx, isNotCr, isNotLf, hashMark, colon, lx, cr, lf]

/-- The PD row that a byte selects is well formed and is encoded by that state and byte. -/
theorem decodePd_sound (st : PdState) (c : Byte) :
    (decodePd st c).WellFormed ∧ encode (decodePd st c) = ⟨.pd st, .pdStep c⟩ := by
  cases st <;> simp only [decodePd] <;> (repeat' split)
  all_goals
    simp_all [Instr.WellFormed, Instr.wellFormed, encode, isNotOpch, isNotLbrNorNul, startsNoValue,
      isNotDigit, continuesNoNumber, isNoStringByte, isNotCommaNorRbr, isNotNul, lbr, nul, minus,
      quote, comma, rbr]

/-- No other well-formed operation has the encoding of the FX row that a byte selects. -/
theorem decodeFx_of_encode {i : Instr} {st : FxState} {c : Byte} (hwf : i.WellFormed)
    (henc : encode i = ⟨.fx st, .fxStep c⟩) : decodeFx st c = i := by
  cases i <;> cases henc
  case fxPayEol => simp [decodeFx, ne_colon_of_isEol hwf, show isEol _ = true from hwf]
  case fxPayAppend => simp [decodeFx, isPayloadByte_iff.mp hwf]
  case fxId1Hex => simp [decodeFx, ne_lx_of_isHex hwf, show isHex _ = true from hwf]
  all_goals
    simp_all [Instr.WellFormed, Instr.wellFormed, decodeFx, isNotHash, isNotLxNorHex, isNotHex,
      isNotLx, isNotCr, isNotLf, hashMark, colon, lx, cr, lf]

/-- No other well-formed operation has the encoding of the PD row that a byte selects. -/
theorem decodePd_of_encode {i : Instr} {st : PdState} {c : Byte} (hwf : i.WellFormed)
    (henc : encode i = ⟨.pd st, .pdStep c⟩) : decodePd st c = i := by
  cases i <;> cases henc
  case pdValDigit => simp [decodePd, ne_minus_of_isDigit hwf, show isDigit _ = true from hwf]
  case pdStrChar => simp [decodePd, ne_quote_of_isStrch hwf, show isStrch _ = true from hwf]
  case pdBeNul | pdValMinus | pdValQuote | pdDcbComma | pdDcbRbr | pdStrQuote | pdCbRbr => decide
  all_goals
    simp_all [Instr.WellFormed, Instr.wellFormed, decodePd, isNotOpch, isNotLbrNorNul,
      startsNoValue, isNotDigit, continuesNoNumber, isNoStringByte, isNotCommaNorRbr, isNotNul,
      lbr, nul, comma]

/-! ## The whole decoder -/

/-- An operation is encoded by a state and byte of FX, by a state and byte of PD, or by a transaction
that any state admits. -/
theorem encode_cases (i : Instr) :
    (∃ st c, encode i = ⟨.fx st, .fxStep c⟩) ∨ (∃ st c, encode i = ⟨.pd st, .pdStep c⟩) ∨
      (encode i).context = .any := by
  cases i <;> simp [encode]

/-- An operation that any state admits passes the decoder's checks when it is well formed. -/
theorem decode_of_any {i : Instr} (fx : FxState) (pd : PdState) (hwf : i.WellFormed)
    (hany : (encode i).context = .any) : decode fx pd (encode i).transaction = .ok i := by
  cases i <;> cases hany
  all_goals
    simp_all [Instr.WellFormed, Instr.wellFormed, encode, decode, onHostAccumulator, withOwnLength]

/-- Settles O1: a row of FX or PD is selected by its own state and byte, any other operation by its
transaction alone. -/
theorem decodeOfEncodeIsTheInstruction : Obligations.DecodeOfEncodeIsTheInstruction := by
  intro i fx pd hwf hctx
  rcases encode_cases i with ⟨st, c, henc⟩ | ⟨st, c, henc⟩ | hany
  · obtain rfl : st = fx := by simpa [henc, Context.admits] using hctx
    simp [henc, decode, decodeFx_of_encode hwf henc]
  · obtain rfl : st = pd := by simpa [henc, Context.admits] using hctx
    simp [henc, decode, decodePd_of_encode hwf henc]
  · exact decode_of_any fx pd hwf hany

theorem onHostAccumulator_ok {acc : Accumulator} {i j : Instr} :
    onHostAccumulator acc i = .ok j ↔ acc = .host ∧ i = j := by
  cases acc <;> simp [onHostAccumulator]

theorem withOwnLength_ok {bytes : List Byte} {length : Nat} {d : Except DecodeRefusal Instr}
    {i : Instr} : withOwnLength bytes length d = .ok i ↔ length = bytes.length ∧ d = .ok i := by
  unfold withOwnLength
  split <;> simp_all

/-- What a Checksum or block transaction selects is well formed and encoded by that transaction. -/
theorem decode_sound_of_any {fx : FxState} {pd : PdState} {t : Transaction} {i : Instr}
    (hfx : ∀ c, t ≠ .fxStep c) (hpd : ∀ c, t ≠ .pdStep c) (h : decode fx pd t = .ok i) :
    i.WellFormed ∧ encode i = ⟨.any, t⟩ := by
  cases t
  case fxStep c => exact absurd rfl (hfx c)
  case pdStep c => exact absurd rfl (hpd c)
  case crcStart | crcUpdate | crcFinalize =>
    obtain ⟨rfl, rfl⟩ := onHostAccumulator_ok.mp h
    exact ⟨rfl, rfl⟩
  case crcUpdaten =>
    obtain ⟨rfl, hhost⟩ := withOwnLength_ok.mp h
    obtain ⟨rfl, rfl⟩ := onHostAccumulator_ok.mp hhost
    exact ⟨by simp [Instr.WellFormed, Instr.wellFormed], rfl⟩
  case crcCompute =>
    obtain ⟨rfl, hok⟩ := withOwnLength_ok.mp h
    cases hok
    exact ⟨by simp [Instr.WellFormed, Instr.wellFormed], rfl⟩
  case blkReset | blkDecode =>
    cases h
    exact ⟨rfl, rfl⟩

/-- Settles O2: the row decoders answer only rows of the state and byte they were asked. -/
theorem encodeOfDecodeIsTheTransaction : Obligations.EncodeOfDecodeIsTheTransaction := by
  intro fx pd t i h
  cases t
  case fxStep c =>
    cases h
    obtain ⟨hwf, henc⟩ := decodeFx_sound fx c
    exact ⟨hwf, by simp [henc, Context.admits], by rw [henc]⟩
  case pdStep c =>
    cases h
    obtain ⟨hwf, henc⟩ := decodePd_sound pd c
    exact ⟨hwf, by simp [henc, Context.admits], by rw [henc]⟩
  all_goals
    obtain ⟨hwf, henc⟩ := decode_sound_of_any (by simp) (by simp) h
    exact ⟨hwf, by simp [henc, Context.admits], by rw [henc]⟩

/-- Settles O3: the row decoder answers one such row, and any other would be decoded to itself. -/
theorem everyByteSelectsExactlyOneRow : Obligations.EveryByteSelectsExactlyOneRow := by
  intro fx pd c
  obtain ⟨hfxwf, hfxenc⟩ := decodeFx_sound fx c
  obtain ⟨hpdwf, hpdenc⟩ := decodePd_sound pd c
  refine ⟨⟨decodeFx fx c, ⟨hfxwf, by rw [hfxenc], by rw [hfxenc]⟩, ?_⟩,
    ⟨decodePd pd c, ⟨hpdwf, by rw [hpdenc], by rw [hpdenc]⟩, ?_⟩⟩
  · rintro i ⟨hwf, hctx, htr⟩
    exact (decodeFx_of_encode hwf (by rw [← hctx, ← htr])).symm
  · rintro i ⟨hwf, hctx, htr⟩
    exact (decodePd_of_encode hwf (by rw [← hctx, ← htr])).symm

/-- Settles O4: each byte is in the class its row names. -/
theorem sampleBytesDecode : Obligations.SampleBytesDecode := by
  unfold Obligations.SampleBytesDecode
  decide

/-! ## One step -/

/-- The call at the head of the queue is taken off it, and the operation it selects is run. -/
theorem step_of_call {s : State} {c : Transaction} {rest : List Request} {i : Instr}
    (hpending : s.pending = .call c :: rest) (hdecode : decode s.fxState s.pdState c = .ok i) :
    step s = exec i { s with pending := rest } := by
  simp [step, State.fetch, hpending, hdecode]

/-- Settles O5. -/
theorem stepRunsTheDecodedInstruction : Obligations.StepRunsTheDecodedInstruction :=
  fun _ _ _ _ hpending hdecode => step_of_call hpending hdecode

theorem step_of_read {s : State} {r : OutputRead} {rest : List Request}
    (hpending : s.pending = .read r :: rest) :
    step s = readOutput r { s with pending := rest } := by
  simp [step, State.fetch, hpending]

end Sys2Proof.Machine
end

section
/-! Proofs of the statements about the Checksum unit's other operations and about the checksum itself
(40_checksum.md sections 2 and 3). -/

namespace Sys2Proof.Machine

/-! ## The table is linear and a permutation -/

/-- One shift, with the polynomial's share written apart. -/
theorem crcShift_eq_xor (v : Byte) :
    crcShift v = (v <<< 1) ^^^ (if v.msb then Config.crcPoly else 0) := by
  unfold crcShift
  split <;> simp

/-- Both the shift and the polynomial's share distribute over exclusive-or. -/
theorem crcShift_xor (a b : Byte) : crcShift (a ^^^ b) = crcShift a ^^^ crcShift b := by
  have hpoly : (if (a ^^^ b).msb then Config.crcPoly else 0) =
      (if a.msb then Config.crcPoly else 0) ^^^ (if b.msb then Config.crcPoly else 0) := by
    rw [BitVec.msb_xor]
    cases a.msb <;> cases b.msb <;> simp
  rw [crcShift_eq_xor, crcShift_eq_xor, crcShift_eq_xor, hpoly, BitVec.shiftLeft_xor_distrib]
  ac_rfl

theorem crcTable_xor (a b : Byte) : crcTable (a ^^^ b) = crcTable a ^^^ crcTable b := by
  simp only [crcTable, crcShift_xor]

theorem eq_zero_of_crcShift {v : Byte} : crcShift v = 0 → v = 0 := by
  revert v
  decide

theorem eq_zero_of_crcTable {v : Byte} (h : crcTable v = 0) : v = 0 := by
  unfold crcTable at h
  iterate 8 replace h := eq_zero_of_crcShift h
  exact h

/-- A linear map with trivial kernel takes different values at different indices. -/
theorem crcTable_injective {a b : Byte} (h : crcTable a = crcTable b) : a = b := by
  have hzero : crcTable (a ^^^ b) = 0 := by rw [crcTable_xor, h, BitVec.xor_self]; rfl
  exact BitVec.xor_eq_zero_iff.mp (eq_zero_of_crcTable hzero)

/-! ## The checksum of a sequence -/

@[simp] theorem crcOver_nil (acc : Byte) : crcOver acc [] = acc := rfl

@[simp] theorem crcOver_cons (acc b : Byte) (bytes : List Byte) :
    crcOver acc (b :: bytes) = crcOver (crcNext acc b) bytes := rfl

theorem crcOver_append (acc : Byte) (bytes bytes' : List Byte) :
    crcOver acc (bytes ++ bytes') = crcOver (crcOver acc bytes) bytes' :=
  List.foldl_append

theorem crcCompute_concat (bytes : List Byte) (b : Byte) :
    crcCompute (bytes ++ [b]) = crcNext (crcCompute bytes) b :=
  crcOver_append _ bytes [b]

theorem crcNext_self (acc : Byte) : crcNext acc acc = 0 := by
  rw [crcNext, BitVec.xor_self]
  decide

theorem crcNext_left_injective {acc acc' b : Byte} (h : crcNext acc b = crcNext acc' b) :
    acc = acc' :=
  (BitVec.xor_left_inj _).mp (crcTable_injective h)

theorem crcNext_right_injective {acc b b' : Byte} (h : crcNext acc b = crcNext acc b') : b = b' :=
  (BitVec.xor_right_inj _).mp (crcTable_injective h)

/-- Different running values stay different over the same bytes. -/
theorem crcOver_left_injective {acc acc' : Byte} (bytes : List Byte)
    (h : crcOver acc bytes = crcOver acc' bytes) : acc = acc' := by
  induction bytes generalizing acc acc' with
  | nil => exact h
  | cons b bytes ih => exact crcNext_left_injective (ih h)

/-- Settles O15. -/
theorem checksumIsLinearAndSelfCancelling : Obligations.ChecksumIsLinearAndSelfCancelling := by
  refine ⟨crcTable_xor, fun _ _ => crcTable_injective, fun bytes => ?_⟩
  rw [crcCompute_concat, crcNext_self]

/-- Settles O16: the running values differ after the changed byte, and stay different. -/
theorem oneByteChangeChangesTheChecksum : Obligations.OneByteChangeChangesTheChecksum := by
  intro before after a b hne heq
  rw [crcCompute, crcCompute, crcOver_append, crcOver_append] at heq
  exact hne (crcNext_right_injective (crcOver_left_injective after heq))

/-! ## CRC.UPDATEN, CRC.FINALIZE and CRC.COMPUTE -/

theorem exec_crcUpdaten (acc : Accumulator) (bytes : List Byte) (s : State) :
    exec (.crcUpdaten acc bytes bytes.length) s =
      .next ((s.setCrc acc (crcOver (s.crc acc) bytes)).respond .done) := if_pos rfl

theorem exec_crcFinalize (acc : Accumulator) (s : State) :
    exec (.crcFinalize acc) s = .next (s.respond (.byte (s.crc acc))) := rfl

theorem exec_crcCompute (bytes : List Byte) (s : State) :
    exec (.crcCompute bytes bytes.length) s = .next (s.respond (.byte (crcCompute bytes))) :=
  if_pos rfl

theorem State.setCrc_self (s : State) (acc : Accumulator) : s.setCrc acc (s.crc acc) = s := by
  cases acc <;> rfl

/-- A second load of an accumulator, and a second result, replace the first. -/
theorem State.setCrc_respond_setCrc_respond (s : State) (acc : Accumulator) (v w : Byte)
    (r q : Response) :
    (((s.setCrc acc v).respond r).setCrc acc w).respond q = (s.setCrc acc w).respond q := by
  cases acc <;> rfl

/-- Settles O12: the first byte's update is the first turn of the fold. -/
theorem crcUpdatenUpdatesByteByByte : Obligations.CrcUpdatenUpdatesByteByByte := by
  intro acc s
  refine ⟨fun bytes => ?_, ?_, fun b bytes t ht => ?_, fun bytes n hn => if_neg hn⟩
  · exact ⟨_, exec_crcUpdaten acc bytes s, State.respond_response _ _,
      onlyWrites_setCrc_respond s acc _ .done⟩
  · rw [show (0 : Nat) = ([] : List Byte).length from rfl, exec_crcUpdaten, crcOver_nil,
      State.setCrc_self]
  · cases ht
    rw [← List.length_cons, exec_crcUpdaten, exec_crcUpdaten]
    simp [State.setCrc_respond_setCrc_respond]

/-- Settles O13. -/
theorem crcFinalizeReturnsTheRunningValue : Obligations.CrcFinalizeReturnsTheRunningValue :=
  fun acc s => ⟨_, exec_crcFinalize acc s, State.respond_response _ _, onlyWrites_respond s _⟩

/-- Settles O14: the accumulator starts at 0, is updated with the bytes, and is what is returned. -/
theorem crcComputeIsStartUpdateFinalize : Obligations.CrcComputeIsStartUpdateFinalize := by
  intro bytes s
  refine ⟨⟨_, exec_crcCompute bytes s, onlyWrites_respond s _, fun u v w hu hv hw => ?_⟩,
    fun n hn => if_neg hn⟩
  rw [exec_crcStart] at hu
  cases hu
  rw [exec_crcUpdaten] at hv
  cases hv
  rw [exec_crcFinalize] at hw
  cases hw
  simp only [State.respond_response, State.crc_respond, State.crc_setCrc]
  rfl

end Sys2Proof.Machine
end

section
/-! What one call of `fx_step` can do, said once as a relation (41_frame_extractor.md), that it is
exactly what the model's step does, and the proofs of the statements that read it off. -/

namespace Sys2Proof.Machine

/-! ## The relation -/

/-- `fx_step(c)` takes `s` to the given state: one constructor per way the rows act, with the state and
class that select it. The ten error rows share `raise`; `tooLong` is the 59th payload byte (R124), and
`mismatch` the failing comparison (R133). -/
inductive FxStepped (c : Byte) (s : State) : State → Prop
  | start (hst : s.fxState = .awaitStart) (hc : c = hashMark) :
      FxStepped c s ((((s.clearFrame.crcStart .fx Config.crcSeed).crcUpdate .fx hashMark).fxGoto
        .awaitPayloadOrMetadata).emit .quiet)
  | skip (hst : s.fxState = .awaitStart) (hc : c ≠ hashMark) : FxStepped c s (s.emit .quiet)
  | metadata (hst : s.fxState = .awaitPayloadOrMetadata) (hc : c = colon) :
      FxStepped c s (((s.crcUpdate .fx colon).fxGoto .awaitIdChar1).emit .quiet)
  | append (hst : s.fxState = .awaitPayloadOrMetadata) (hc : isPayloadByte c = true)
      (hlen : s.fxLen < 58) :
      FxStepped c s
        (({ s with payload := s.payload.write s.fxLen c, fxLen := s.fxLen + 1 }.crcUpdate
          .fx c).emit .quiet)
  | tooLong (hst : s.fxState = .awaitPayloadOrMetadata) (hc : isPayloadByte c = true)
      (hlen : s.fxLen = 58) : FxStepped c s (s.raise .fx .frameTooLong)
  | noId (hst : s.fxState = .awaitIdChar1) (hc : c = lx) :
      FxStepped c s (({ s with fxHasId := false }.fxGoto .awaitDummy2).emit .quiet)
  | firstId (hst : s.fxState = .awaitIdChar1) (hc : isHex c = true) :
      FxStepped c s ((({ s with fxHasId := true, fxId := hexVal c }.crcUpdate .fx c).fxGoto
        .awaitIdChar2).emit .quiet)
  | secondId (hst : s.fxState = .awaitIdChar2) (hc : isHex c = true) :
      FxStepped c s ((({ s with fxId := s.fxId * 16 + hexVal c }.crcUpdate .fx c).fxGoto
        .awaitChecksum1).emit .quiet)
  | firstClaimed (hst : s.fxState = .awaitChecksum1) (hc : isHex c = true) :
      FxStepped c s (({ s with fxClaimed := hexVal c }.fxGoto .awaitChecksum2).emit .quiet)
  | verified (hst : s.fxState = .awaitChecksum2) (hc : isHex c = true)
      (hcrc : s.fxClaimed * 16 + hexVal c = s.fxCrc) :
      FxStepped c s
        (({ s with fxClaimed := s.fxClaimed * 16 + hexVal c }.fxGoto .awaitCR).emit .quiet)
  | mismatch (hst : s.fxState = .awaitChecksum2) (hc : isHex c = true)
      (hcrc : s.fxClaimed * 16 + hexVal c ≠ s.fxCrc) :
      FxStepped c s
        ({ s with fxClaimed := s.fxClaimed * 16 + hexVal c }.raise .fx .checksumMismatch)
  | dummy2 (hst : s.fxState = .awaitDummy2) (hc : c = lx) :
      FxStepped c s ((s.fxGoto .awaitDummy3).emit .quiet)
  | dummy3 (hst : s.fxState = .awaitDummy3) (hc : c = lx) :
      FxStepped c s ((s.fxGoto .awaitDummy4).emit .quiet)
  | dummy4 (hst : s.fxState = .awaitDummy4) (hc : c = lx) :
      FxStepped c s ((s.fxGoto .awaitCR).emit .quiet)
  | terminate (hst : s.fxState = .awaitCR) (hc : c = cr) (hlen : s.fxLen < 59) :
      FxStepped c s
        (({ s with payload := s.payload.write s.fxLen Config.terminator }.fxGoto .awaitLF).emit
          .quiet)
  | complete (hst : s.fxState = .awaitLF) (hc : c = lf) :
      FxStepped c s (((s.fxGoto .awaitStart).openFrame).emit .frameComplete)
  | raise {e : ErrorName} (hrow : fxErrorRow (decodeFx s.fxState c) = some (s.fxState, e)) :
      FxStepped c s (s.raise .fx e)

/-! ## The rows that have no equation yet -/

section Rows

variable {s t : State} {c : Byte}

theorem exec_fxStartHash (h : s.fxState = .awaitStart) :
    exec .fxStartHash s =
      .next ((((s.clearFrame.crcStart .fx Config.crcSeed).crcUpdate .fx hashMark).fxGoto
        .awaitPayloadOrMetadata).emit .quiet) := onFx_selected _ h rfl

theorem exec_fxCk2Hex (h : s.fxState = .awaitChecksum2) (hc : isHex c = true) :
    exec (.fxCk2Hex c) s =
      if s.fxClaimed * 16 + hexVal c = s.fxCrc then
        fxMove .awaitCR { s with fxClaimed := s.fxClaimed * 16 + hexVal c }
      else raising .fx .checksumMismatch { s with fxClaimed := s.fxClaimed * 16 + hexVal c } :=
  onFx_selected _ h hc

theorem exec_fxCrCr (h : s.fxState = .awaitCR) (hlen : s.fxLen < 59) :
    exec .fxCrCr s =
      fxMove .awaitLF { s with payload := s.payload.write s.fxLen Config.terminator } :=
  (onFx_selected _ h rfl).trans (storePayload_in hlen)

/-! ## The relation is the step -/

theorem step_present_fxStep (s : State) (c : Byte) :
    step (s.present (.fxStep c)) = exec (decodeFx s.fxState c) s := rfl

/-- The FX row whose state and byte are the present ones is the one that runs. -/
theorem exec_decodeFx (i : Instr) (hwf : i.WellFormed)
    (henc : encode i = ⟨.fx s.fxState, .fxStep c⟩) :
    exec (decodeFx s.fxState c) s = exec i s := by
  rw [decodeFx_of_encode hwf henc]

theorem FxStepped.of_errorRow {i : Instr} {st : FxState} {e : ErrorName}
    (hi : decodeFx s.fxState c = i) (hrow : fxErrorRow i = some (st, e))
    (h : exec i s = .next t) : FxStepped c s t := by
  rw [exec_of_fxErrorRow hrow] at h
  obtain ⟨rfl, -, h⟩ := onFx_next h
  rw [raising_next h]
  exact .raise (hi ▸ hrow)

/-- What the selected row does is in the relation: a case per row that is no error row. -/
theorem FxStepped.of_exec (h : exec (decodeFx s.fxState c) s = .next t) : FxStepped c s t := by
  obtain ⟨-, henc⟩ := decodeFx_sound s.fxState c
  generalize hi : decodeFx s.fxState c = i at henc h
  cases i <;> simp [encode] at henc
  case fxPayEol | fxId1Bad | fxId2Bad | fxCk1Bad | fxCk2Bad | fxDum2Bad | fxDum3Bad | fxDum4Bad |
      fxCrBad | fxLfBad => exact .of_errorRow hi rfl h
  all_goals
    obtain ⟨-, rfl⟩ := henc
    obtain ⟨hst, hc, h⟩ := onFx_next h
  case fxStartHash => cases h; exact .start hst rfl
  case fxStartSkip => cases h; exact .skip hst (bne_iff_ne.mp hc)
  case fxPayColon => cases h; exact .metadata hst rfl
  case fxPayAppend =>
    split at h
    · next hfull => cases h; exact .tooLong hst hc hfull
    · next hfull =>
      obtain ⟨hlen, h⟩ := storePayload_next h
      cases h
      exact .append hst hc (Nat.lt_of_le_of_ne (Nat.le_of_lt_succ hlen) hfull)
  case fxId1X => cases h; exact .noId hst rfl
  case fxId1Hex => cases h; exact .firstId hst hc
  case fxId2Hex => cases h; exact .secondId hst hc
  case fxCk1Hex => cases h; exact .firstClaimed hst hc
  case fxCk2Hex =>
    split at h
    · next hcrc => cases h; exact .verified hst hc hcrc
    · next hcrc => cases h; exact .mismatch hst hc hcrc
  case fxDum2X => cases h; exact .dummy2 hst rfl
  case fxDum3X => cases h; exact .dummy3 hst rfl
  case fxDum4X => cases h; exact .dummy4 hst rfl
  case fxCrCr =>
    obtain ⟨hlen, h⟩ := storePayload_next h
    cases h
    exact .terminate hst rfl hlen
  case fxLfLf => cases h; exact .complete hst rfl

/-- Whatever is in the relation is what the selected row does. -/
theorem FxStepped.exec (h : FxStepped c s t) : exec (decodeFx s.fxState c) s = .next t := by
  cases h with
  | start hst hc =>
    rw [exec_decodeFx .fxStartHash rfl (by rw [hst, hc]; rfl), exec_fxStartHash hst]
  | skip hst hc =>
    rw [exec_decodeFx (.fxStartSkip c) (bne_iff_ne.mpr hc) (by rw [hst]; rfl),
      exec_fxStartSkip hst (bne_iff_ne.mpr hc)]
  | metadata hst hc =>
    rw [exec_decodeFx .fxPayColon rfl (by rw [hst, hc]; rfl), exec_fxPayColon hst, fxMove]
  | append hst hc hlen =>
    rw [exec_decodeFx (.fxPayAppend c) hc (by rw [hst]; rfl), exec_fxPayAppend_below hst hc hlen]
  | tooLong hst hc hlen =>
    rw [exec_decodeFx (.fxPayAppend c) hc (by rw [hst]; rfl), exec_fxPayAppend_full hst hc hlen,
      raising]
  | noId hst hc => rw [exec_decodeFx .fxId1X rfl (by rw [hst, hc]; rfl), exec_fxId1X hst, fxMove]
  | firstId hst hc =>
    rw [exec_decodeFx (.fxId1Hex c) hc (by rw [hst]; rfl), exec_fxId1Hex hst hc, fxMove]
  | secondId hst hc =>
    rw [exec_decodeFx (.fxId2Hex c) hc (by rw [hst]; rfl), exec_fxId2Hex hst hc, fxMove]
  | firstClaimed hst hc =>
    rw [exec_decodeFx (.fxCk1Hex c) hc (by rw [hst]; rfl), exec_fxCk1Hex hst hc, fxMove]
  | verified hst hc hcrc =>
    rw [exec_decodeFx (.fxCk2Hex c) hc (by rw [hst]; rfl), exec_fxCk2Hex hst hc, if_pos hcrc, fxMove]
  | mismatch hst hc hcrc =>
    rw [exec_decodeFx (.fxCk2Hex c) hc (by rw [hst]; rfl), exec_fxCk2Hex hst hc, if_neg hcrc, raising]
  | dummy2 hst hc =>
    rw [exec_decodeFx .fxDum2X rfl (by rw [hst, hc]; rfl), exec_of_fxDummyRow rfl,
      onFx_selected _ hst rfl, fxMove]
  | dummy3 hst hc =>
    rw [exec_decodeFx .fxDum3X rfl (by rw [hst, hc]; rfl), exec_of_fxDummyRow rfl,
      onFx_selected _ hst rfl, fxMove]
  | dummy4 hst hc =>
    rw [exec_decodeFx .fxDum4X rfl (by rw [hst, hc]; rfl), exec_of_fxDummyRow rfl,
      onFx_selected _ hst rfl, fxMove]
  | terminate hst hc hlen =>
    rw [exec_decodeFx .fxCrCr rfl (by rw [hst, hc]; rfl), exec_fxCrCr hst hlen, fxMove]
  | complete hst hc => rw [exec_decodeFx .fxLfLf rfl (by rw [hst, hc]; rfl), exec_fxLfLf hst]
  | raise hrow =>
    rw [exec_of_fxErrorRow hrow, onFx_selected _ rfl (decodeFx_sound s.fxState c).1, raising]

/-- The relation is exactly what a call of `fx_step` does. -/
theorem step_fxStep_iff : step (s.present (.fxStep c)) = .next t ↔ FxStepped c s t := by
  rw [step_present_fxStep]
  exact ⟨FxStepped.of_exec, FxStepped.exec⟩

/-- With the length in bounds there is room for every store, so every byte is answered. -/
theorem exists_fxStepped (c : Byte) (hlen : s.fxLen ≤ 58) : ∃ t, FxStepped c s t := by
  obtain ⟨hwf, henc⟩ := decodeFx_sound s.fxState c
  generalize hi : decodeFx s.fxState c = i at hwf henc
  cases i <;> simp [encode] at henc
  case fxPayEol | fxId1Bad | fxId2Bad | fxCk1Bad | fxCk2Bad | fxDum2Bad | fxDum3Bad | fxDum4Bad |
      fxCrBad | fxLfBad => exact ⟨_, .raise (by rw [hi, ← henc.1]; rfl)⟩
  all_goals obtain ⟨hst, rfl⟩ := henc
  case fxStartHash => exact ⟨_, .start hst.symm rfl⟩
  case fxStartSkip => exact ⟨_, .skip hst.symm (bne_iff_ne.mp hwf)⟩
  case fxPayColon => exact ⟨_, .metadata hst.symm rfl⟩
  case fxPayAppend =>
    rcases Nat.lt_or_eq_of_le hlen with hbelow | hfull
    · exact ⟨_, .append hst.symm hwf hbelow⟩
    · exact ⟨_, .tooLong hst.symm hwf hfull⟩
  case fxId1X => exact ⟨_, .noId hst.symm rfl⟩
  case fxId1Hex => exact ⟨_, .firstId hst.symm hwf⟩
  case fxId2Hex => exact ⟨_, .secondId hst.symm hwf⟩
  case fxCk1Hex => exact ⟨_, .firstClaimed hst.symm hwf⟩
  case fxCk2Hex b =>
    by_cases hcrc : s.fxClaimed * 16 + hexVal b = s.fxCrc
    · exact ⟨_, .verified hst.symm hwf hcrc⟩
    · exact ⟨_, .mismatch hst.symm hwf hcrc⟩
  case fxDum2X => exact ⟨_, .dummy2 hst.symm rfl⟩
  case fxDum3X => exact ⟨_, .dummy3 hst.symm rfl⟩
  case fxDum4X => exact ⟨_, .dummy4 hst.symm rfl⟩
  case fxCrCr => exact ⟨_, .terminate hst.symm rfl (Nat.lt_succ_of_le hlen)⟩
  case fxLfLf => exact ⟨_, .complete hst.symm rfl⟩

/-! ## What every call of `fx_step` has in common -/

/-- The error rows are rows inside a frame and raise an error of FX. -/
theorem fxErrorRow_inside {i : Instr} {st : FxState} {e : ErrorName}
    (h : fxErrorRow i = some (st, e)) : st ≠ .awaitStart ∧ e.isFx = true := by
  unfold fxErrorRow at h
  split at h <;> cases h <;> decide

/-- FX writes FX alone. -/
theorem FxStepped.onlyWrites (h : FxStepped c s t) : OnlyWrites fxParts s t := by
  cases h <;> exact onlyWrites_of_mem_or_same fun p => by cases p <;> simp [Part.Same, fxParts]

/-- A call ends with one event: `None`, the completion, or an error, which it has raised. -/
theorem FxStepped.event (h : FxStepped c s t) :
    t.response = .event .quiet ∨
      (t.response = .event .frameComplete ∧ t.fxState = .awaitStart ∧ t.frameOpen = true) ∨
      ∃ e, FxRaised e t ∧ e.isFx = true ∧ t.frameOpen = s.frameOpen := by
  cases h
  case complete => exact .inr (.inl ⟨rfl, rfl, rfl⟩)
  case tooLong | mismatch => exact .inr (.inr ⟨_, ⟨rfl, rfl, rfl⟩, by decide, rfl⟩)
  case raise hrow => exact .inr (.inr ⟨_, ⟨rfl, rfl, rfl⟩, (fxErrorRow_inside hrow).2, rfl⟩)
  all_goals exact .inl rfl

end Rows

/-! ## The statements -/

/-- Settles O17. -/
theorem startMarkerOpensAFrame : Obligations.StartMarkerOpensAFrame := by
  intro s hst
  have hcrc : crcNext Config.crcSeed hashMark = crcTable 0x23 := by decide
  refine ⟨_, exec_fxStartHash hst, rfl, rfl, rfl, rfl, rfl,
    by simpa using hcrc, rfl, rfl, rfl, ?_⟩
  exact onlyWrites_of_mem_or_same fun p => by cases p <;> simp [Part.Same]

/-- Settles O26: the two digits make the claimed byte exactly, so comparing the bytes is comparing
the values. -/
theorem secondChecksumDigitIsCompared : Obligations.SecondChecksumDigitIsCompared := by
  intro s c hst hc hclaimed
  have hdigit : (hexVal c).toNat ≤ 15 := hexVal_toNat hc ▸ hexNat_le hc
  have hsum : (s.fxClaimed * 16 + hexVal c).toNat = s.fxClaimed.toNat * 16 + hexNat c := by
    rw [toNat_mul_16_add hclaimed hdigit, hexVal_toNat hc]
  have hframe := onlyWrites_fxClaimed s (s.fxClaimed * 16 + hexVal c)
  rw [exec_fxCk2Hex hst hc, ← hsum]
  refine ⟨fun heq => ?_, fun hne => ?_⟩
  · rw [if_pos (BitVec.eq_of_toNat_eq heq)]
    exact ⟨_, rfl, rfl, rfl, rfl, hframe.fxGoto_emit _ _⟩
  · rw [if_neg fun heq => hne (congrArg BitVec.toNat heq)]
    exact ⟨_, rfl, rfl, ⟨rfl, rfl, rfl⟩, hframe.trans (onlyWrites_raiseFx _ _)⟩

/-- Settles O28. -/
theorem carriageReturnTerminatesThePayload : Obligations.CarriageReturnTerminatesThePayload := by
  intro s hst hlen
  refine ⟨_, exec_fxCrCr hst (Nat.lt_succ_of_le hlen), Memory.read_write_same _ _ _,
    fun _ ha => Memory.read_write_other _ _ ha, rfl, rfl, ?_⟩
  exact onlyWrites_of_mem_or_same fun p => by cases p <;> simp [Part.Same]

/-- Settles O50. -/
theorem fxStepIsTotal : Obligations.FxStepIsTotal := by
  intro s c hlen
  obtain ⟨t, ht⟩ := exists_fxStepped c hlen
  refine ⟨t, step_fxStep_iff.mpr ht, ?_, ht.onlyWrites⟩
  rcases ht.event with hquiet | ⟨hdone, hst, -⟩ | ⟨e, ⟨herr, hst, hresp⟩, hfx, -⟩
  · exact ⟨_, hquiet, nofun, fun hne => absurd rfl hne, nofun⟩
  · exact ⟨_, hdone, nofun, fun _ => hst, nofun⟩
  · refine ⟨_, hresp, nofun, fun _ => hst, fun x hx => ?_⟩
    cases hx
    exact ⟨herr, hfx⟩

end Sys2Proof.Machine
end

section
/-! What one call of `pd_step` can do, said once as a relation (42_payload_decoder.md), that it is
exactly what the model's step does, and the proofs of the statements about single rows. -/

namespace Sys2Proof.Machine

/-! ## The relation -/

/-- The errors a row of PD can raise: the eight error rows, and the four limits
(42_payload_decoder.md R155 to R157, R161, R166). -/
inductive PdRaises (c : Byte) (s : State) : ErrorName → Prop
  | badRow {e : ErrorName} (hrow : pdErrorRow (decodePd s.pdState c) = some (s.pdState, e)) :
      PdRaises c s e
  | tooManyArguments (hst : s.pdState = .waitValue)
      (hc : startsValue (decodePd .waitValue c) = true) (hfull : s.nvalues = 12) :
      PdRaises c s .tooManyArguments
  | tooManyStrings (hst : s.pdState = .waitValue) (hc : c = quote) (hroom : s.nvalues ≠ 12)
      (hstr : s.pdHasString = true) : PdRaises c s .tooManyStrings
  | valueOutOfRange (hst : s.pdState = .waitDigitsOrCommaOrBracket) (hc : isDigit c = true)
      (hrange : inInt16 (s.nextValue (decVal c)) = false) : PdRaises c s .valueOutOfRange
  | stringTooLong (hst : s.pdState = .waitString) (hc : isStrch c = true)
      (hlen : s.pdStrlen = 32) : PdRaises c s .stringTooLong

/-- `pd_step(c)` takes `s` to the given state: one constructor per way the rows act, with the state and
class that select it. -/
inductive PdStepped (c : Byte) (s : State) : State → Prop
  | opcode (hst : s.pdState = .waitOpcode) (hc : isOpch c = true) :
      PdStepped c s (((s.clearMessage c).pdGoto .waitBracketOrEnd).emit .quiet)
  | bracket (hst : s.pdState = .waitBracketOrEnd) (hc : c = lbr) :
      PdStepped c s ((s.pdGoto .waitValue).emit .quiet)
  | bare (hst : s.pdState = .waitBracketOrEnd) (hc : c = nul) :
      PdStepped c s (((s.pdGoto .waitOpcode).openMessage).emit .messageComplete)
  | minus (hst : s.pdState = .waitValue) (hc : c = Machine.minus) (hroom : s.nvalues ≠ 12) :
      PdStepped c s (((s.setValue .minus 0).pdGoto .waitDigit).emit .quiet)
  | digit (hst : s.pdState = .waitValue) (hc : isDigit c = true) (hroom : s.nvalues ≠ 12) :
      PdStepped c s (((s.setValue .plus (toInt16 (decVal c))).pdGoto
        .waitDigitsOrCommaOrBracket).emit .quiet)
  | openQuote (hst : s.pdState = .waitValue) (hc : c = quote) (hroom : s.nvalues ≠ 12)
      (hstr : s.pdHasString = false) :
      PdStepped c s ((s.openString.pdGoto .waitString).emit .quiet)
  | digitAfterMinus (hst : s.pdState = .waitDigit) (hc : isDigit c = true) :
      PdStepped c s (((s.setValue s.pdSign (toInt16 (s.nextValue (decVal c)))).pdGoto
        .waitDigitsOrCommaOrBracket).emit .quiet)
  | nextDigit (hst : s.pdState = .waitDigitsOrCommaOrBracket) (hc : isDigit c = true)
      (hrange : inInt16 (s.nextValue (decVal c)) = true) :
      PdStepped c s ((s.setValue s.pdSign (toInt16 (s.nextValue (decVal c)))).emit .quiet)
  | integerComma (hst : s.pdState = .waitDigitsOrCommaOrBracket) (hc : c = comma)
      (hk : s.pdArgc < 12) :
      PdStepped c s
        (({ s with args := s.args.set s.pdArgc s.pdAcc hk, pdArgc := s.pdArgc + 1 }.pdGoto
          .waitValue).emit .quiet)
  | integerBracket (hst : s.pdState = .waitDigitsOrCommaOrBracket) (hc : c = rbr)
      (hk : s.pdArgc < 12) :
      PdStepped c s
        (({ s with args := s.args.set s.pdArgc s.pdAcc hk, pdArgc := s.pdArgc + 1 }.pdGoto
          .waitEnd).emit .quiet)
  | closeQuote (hst : s.pdState = .waitString) (hc : c = quote) :
      PdStepped c s ((s.pdGoto .waitCommaOrBracket).emit .quiet)
  | char (hst : s.pdState = .waitString) (hc : isStrch c = true) (hlen : s.pdStrlen < 32) :
      PdStepped c s
        ({ s with str := s.str.write s.pdStrlen c, pdStrlen := s.pdStrlen + 1 }.emit .quiet)
  | stringComma (hst : s.pdState = .waitCommaOrBracket) (hc : c = comma) :
      PdStepped c s ((s.pdGoto .waitValue).emit .quiet)
  | stringBracket (hst : s.pdState = .waitCommaOrBracket) (hc : c = rbr) :
      PdStepped c s ((s.pdGoto .waitEnd).emit .quiet)
  | terminator (hst : s.pdState = .waitEnd) (hc : c = nul) :
      PdStepped c s (((s.pdGoto .waitOpcode).openMessage).emit .messageComplete)
  | raise {e : ErrorName} (he : PdRaises c s e) : PdStepped c s (s.raise .pd e)

/-! ## The rows, in their own state and class -/

/-- An error row is its state, its class and its `raise`, whichever of the eight it is. -/
theorem exec_of_pdErrorRow {i : Instr} {st : PdState} {e : ErrorName}
    (h : pdErrorRow i = some (st, e)) (s : State) :
    exec i s = onPd st i.wellFormed s (raising .pd e s) := by
  unfold pdErrorRow at h
  split at h <;> cases h <;> rfl

section Rows

variable {s t : State} {c : Byte}

theorem startValue_full {o : Out} (h : s.nvalues = 12) :
    startValue s o = raising .pd .tooManyArguments s :=
  if_pos (by simpa [State.valuesFull, Config.maxValues] using h)

theorem startValue_room {o : Out} (h : s.nvalues ≠ 12) : startValue s o = o :=
  if_neg (by simpa [State.valuesFull, Config.maxValues] using h)

theorem exec_pdOpOpcode (h : s.pdState = .waitOpcode) (hc : isOpch c = true) :
    exec (.pdOpOpcode c) s = pdMove .waitBracketOrEnd (s.clearMessage c) := onPd_selected _ h hc

theorem exec_pdValMinus (h : s.pdState = .waitValue) :
    exec .pdValMinus s = startValue s (pdMove .waitDigit (s.setValue .minus 0)) :=
  onPd_selected _ h rfl

theorem exec_pdValDigit (h : s.pdState = .waitValue) (hc : isDigit c = true) :
    exec (.pdValDigit c) s =
      startValue s (pdMove .waitDigitsOrCommaOrBracket (s.setValue .plus (toInt16 (decVal c)))) :=
  onPd_selected _ h hc

theorem exec_pdValQuote (h : s.pdState = .waitValue) :
    exec .pdValQuote s =
      startValue s
        (if s.pdHasString then raising .pd .tooManyStrings s else pdMove .waitString s.openString) :=
  onPd_selected _ h rfl

/-- A row that begins a value is a row of `WaitValue`, and raises when there are 12 values. -/
theorem exec_of_startsValue {i : Instr} (hi : startsValue i = true) (hwf : i.WellFormed)
    (h : s.pdState = .waitValue) (hfull : s.nvalues = 12) :
    exec i s = raising .pd .tooManyArguments s := by
  unfold startsValue at hi
  split at hi
  · rw [exec_pdValMinus h, startValue_full hfull]
  · rw [exec_pdValDigit h hwf, startValue_full hfull]
  · rw [exec_pdValQuote h, startValue_full hfull]
  · cases hi

theorem exec_pdDcbDigit (h : s.pdState = .waitDigitsOrCommaOrBracket) (hc : isDigit c = true) :
    exec (.pdDcbDigit c) s =
      if inInt16 (s.nextValue (decVal c)) then
        .next ((s.setValue s.pdSign (toInt16 (s.nextValue (decVal c)))).emit .quiet)
      else raising .pd .valueOutOfRange s := onPd_selected _ h hc

theorem exec_pdStrChar_below (h : s.pdState = .waitString) (hc : isStrch c = true)
    (hlen : s.pdStrlen < 32) :
    exec (.pdStrChar c) s =
      .next ({ s with str := s.str.write s.pdStrlen c, pdStrlen := s.pdStrlen + 1 }.emit .quiet) := by
  have hmax : s.pdStrlen ≠ Config.maxString := Nat.ne_of_lt hlen
  exact (onPd_selected _ h hc).trans ((if_neg hmax).trans (storeStr_in hlen))

theorem exec_pdStrChar_full (h : s.pdState = .waitString) (hc : isStrch c = true)
    (hlen : s.pdStrlen = 32) : exec (.pdStrChar c) s = raising .pd .stringTooLong s :=
  (onPd_selected _ h hc).trans (if_pos hlen)

theorem endInteger_room (st : PdState) (hk : s.pdArgc < 12) :
    endInteger st s =
      .next (({ s with args := s.args.set s.pdArgc s.pdAcc hk, pdArgc := s.pdArgc + 1 }.pdGoto
        st).emit .quiet) := storeArg_in hk

/-! ## The relation is the step -/

theorem step_present_pdStep (s : State) (c : Byte) :
    step (s.present (.pdStep c)) = exec (decodePd s.pdState c) s := rfl

/-- The PD row whose state and byte are the present ones is the one that runs. -/
theorem exec_decodePd (i : Instr) (hwf : i.WellFormed)
    (henc : encode i = ⟨.pd s.pdState, .pdStep c⟩) :
    exec (decodePd s.pdState c) s = exec i s := by
  rw [decodePd_of_encode hwf henc]

theorem PdStepped.of_errorRow {i : Instr} {st : PdState} {e : ErrorName}
    (hi : decodePd s.pdState c = i) (hrow : pdErrorRow i = some (st, e))
    (h : Machine.exec i s = .next t) : PdStepped c s t := by
  rw [exec_of_pdErrorRow hrow] at h
  obtain ⟨rfl, -, h⟩ := onPd_next h
  rw [raising_next h]
  exact .raise (.badRow (hi ▸ hrow))

/-- A row that begins a value does so, or finds 12 values already. -/
theorem PdStepped.of_startValue {o : Out} (hst : s.pdState = .waitValue)
    (hc : startsValue (decodePd s.pdState c) = true) (h : startValue s o = .next t)
    (haccept : s.nvalues ≠ 12 → o = .next t → PdStepped c s t) : PdStepped c s t := by
  rcases startValue_next h with ⟨hfull, rfl⟩ | ⟨hroom, h⟩
  · exact .raise (.tooManyArguments hst (hst ▸ hc) hfull)
  · exact haccept hroom h

/-- What the selected row does is in the relation: a case per row that is no error row. -/
theorem PdStepped.of_exec (h : Machine.exec (decodePd s.pdState c) s = .next t) :
    PdStepped c s t := by
  obtain ⟨-, henc⟩ := decodePd_sound s.pdState c
  generalize hi : decodePd s.pdState c = i at henc h
  cases i <;> simp [encode] at henc
  case pdOpBad | pdBeBad | pdValBad | pdDigBad | pdDcbBad | pdStrBad | pdCbBad | pdEndBad =>
    exact .of_errorRow hi rfl h
  all_goals
    obtain ⟨-, rfl⟩ := henc
    obtain ⟨hst, hc, h⟩ := onPd_next h
  case pdOpOpcode => cases h; exact .opcode hst hc
  case pdBeLbr => cases h; exact .bracket hst rfl
  case pdBeNul => cases h; exact .bare hst rfl
  case pdValMinus =>
    refine .of_startValue hst (by rw [hi]; rfl) h fun hroom h => ?_
    cases h
    exact .minus hst rfl hroom
  case pdValDigit =>
    refine .of_startValue hst (by rw [hi]; rfl) h fun hroom h => ?_
    cases h
    exact .digit hst hc hroom
  case pdValQuote =>
    refine .of_startValue hst (by rw [hi]; rfl) h fun hroom h => ?_
    split at h
    · next hstr => cases h; exact .raise (.tooManyStrings hst rfl hroom hstr)
    · next hstr => cases h; exact .openQuote hst rfl hroom (Bool.eq_false_iff.mpr hstr)
  case pdDigDigit => cases h; exact .digitAfterMinus hst hc
  case pdDcbDigit =>
    split at h
    · next hrange => cases h; exact .nextDigit hst hc hrange
    · next hrange =>
      cases h
      exact .raise (.valueOutOfRange hst hc (Bool.eq_false_iff.mpr hrange))
  case pdDcbComma =>
    obtain ⟨hk, rfl⟩ := endInteger_next h
    exact .integerComma hst rfl hk
  case pdDcbRbr =>
    obtain ⟨hk, rfl⟩ := endInteger_next h
    exact .integerBracket hst rfl hk
  case pdStrQuote => cases h; exact .closeQuote hst rfl
  case pdStrChar =>
    split at h
    · next hfull => cases h; exact .raise (.stringTooLong hst hc hfull)
    · obtain ⟨hlen, h⟩ := storeStr_next h
      cases h
      exact .char hst hc hlen
  case pdCbComma => cases h; exact .stringComma hst rfl
  case pdCbRbr => cases h; exact .stringBracket hst rfl
  case pdEndNul => cases h; exact .terminator hst rfl

theorem PdRaises.exec {e : ErrorName} (h : PdRaises c s e) :
    Machine.exec (decodePd s.pdState c) s = raising .pd e s := by
  obtain ⟨hwf, -⟩ := decodePd_sound s.pdState c
  cases h with
  | badRow hrow => rw [exec_of_pdErrorRow hrow, onPd_selected _ rfl hwf]
  | tooManyArguments hst hc hfull => exact exec_of_startsValue (hst ▸ hc) hwf hst hfull
  | tooManyStrings hst hc hroom hstr =>
    rw [exec_decodePd .pdValQuote rfl (by rw [hst, hc]; rfl), exec_pdValQuote hst,
      startValue_room hroom, if_pos hstr]
  | valueOutOfRange hst hc hrange =>
    rw [exec_decodePd (.pdDcbDigit c) hc (by rw [hst]; rfl), exec_pdDcbDigit hst hc,
      if_neg (Bool.eq_false_iff.mp hrange)]
  | stringTooLong hst hc hlen =>
    rw [exec_decodePd (.pdStrChar c) hc (by rw [hst]; rfl), exec_pdStrChar_full hst hc hlen]

/-- Whatever is in the relation is what the selected row does. -/
theorem PdStepped.exec (h : PdStepped c s t) :
    Machine.exec (decodePd s.pdState c) s = .next t := by
  cases h with
  | opcode hst hc =>
    rw [exec_decodePd (.pdOpOpcode c) hc (by rw [hst]; rfl), exec_pdOpOpcode hst hc, pdMove]
  | bracket hst hc =>
    rw [exec_decodePd .pdBeLbr rfl (by rw [hst, hc]; rfl), exec_of_pdMoveRow rfl,
      onPd_selected _ hst rfl, pdMove]
  | bare hst hc =>
    rw [exec_decodePd .pdBeNul rfl (by rw [hst, hc]; rfl), exec_pdBeNul hst, completeMessage]
  | minus hst hc hroom =>
    rw [exec_decodePd .pdValMinus rfl (by rw [hst, hc]; rfl), exec_pdValMinus hst,
      startValue_room hroom, pdMove]
  | digit hst hc hroom =>
    rw [exec_decodePd (.pdValDigit c) hc (by rw [hst]; rfl), exec_pdValDigit hst hc,
      startValue_room hroom, pdMove]
  | openQuote hst hc hroom hstr =>
    rw [exec_decodePd .pdValQuote rfl (by rw [hst, hc]; rfl), exec_pdValQuote hst,
      startValue_room hroom, if_neg (Bool.eq_false_iff.mp hstr), pdMove]
  | digitAfterMinus hst hc =>
    rw [exec_decodePd (.pdDigDigit c) hc (by rw [hst]; rfl), exec_pdDigDigit hst hc, pdMove]
  | nextDigit hst hc hrange =>
    rw [exec_decodePd (.pdDcbDigit c) hc (by rw [hst]; rfl), exec_pdDcbDigit hst hc, if_pos hrange]
  | integerComma hst hc hk =>
    rw [exec_decodePd .pdDcbComma rfl (by rw [hst, hc]; rfl), exec_pdDcbComma hst,
      endInteger_room _ hk]
  | integerBracket hst hc hk =>
    rw [exec_decodePd .pdDcbRbr rfl (by rw [hst, hc]; rfl), exec_pdDcbRbr hst,
      endInteger_room _ hk]
  | closeQuote hst hc =>
    rw [exec_decodePd .pdStrQuote rfl (by rw [hst, hc]; rfl), exec_of_pdMoveRow rfl,
      onPd_selected _ hst rfl, pdMove]
  | char hst hc hlen =>
    rw [exec_decodePd (.pdStrChar c) hc (by rw [hst]; rfl), exec_pdStrChar_below hst hc hlen]
  | stringComma hst hc =>
    rw [exec_decodePd .pdCbComma rfl (by rw [hst, hc]; rfl), exec_of_pdMoveRow rfl,
      onPd_selected _ hst rfl, pdMove]
  | stringBracket hst hc =>
    rw [exec_decodePd .pdCbRbr rfl (by rw [hst, hc]; rfl), exec_of_pdMoveRow rfl,
      onPd_selected _ hst rfl, pdMove]
  | terminator hst hc =>
    rw [exec_decodePd .pdEndNul rfl (by rw [hst, hc]; rfl), exec_pdEndNul hst, completeMessage]
  | raise he => rw [he.exec, raising]

/-- The relation is exactly what a call of `pd_step` does. -/
theorem step_pdStep_iff : step (s.present (.pdStep c)) = .next t ↔ PdStepped c s t := by
  rw [step_present_pdStep]
  exact ⟨PdStepped.of_exec, PdStepped.exec⟩

/-- The relation is exactly what one turn of BLK.DECODE's loop does. -/
theorem pdStep_iff : pdStep c s = .next t ↔ PdStepped c s t := by
  rw [pdStep_eq_exec]
  exact ⟨PdStepped.of_exec, PdStepped.exec⟩

/-- The two bounds under which every store of PD finds room. -/
def State.PdRoom (s : State) : Prop :=
  (s.pdState = .waitDigitsOrCommaOrBracket → s.pdArgc < 12) ∧
    (s.pdState = .waitString → s.pdStrlen ≤ 32)

/-- A row that begins a value is answered: accepted, or refused as a 13th. -/
theorem exists_pdStepped_of_startsValue (hst : s.pdState = .waitValue)
    (hc : startsValue (decodePd s.pdState c) = true)
    (haccept : s.nvalues ≠ 12 → ∃ t, PdStepped c s t) : ∃ t, PdStepped c s t := by
  by_cases hfull : s.nvalues = 12
  · exact ⟨_, .raise (.tooManyArguments hst (hst ▸ hc) hfull)⟩
  · exact haccept hfull

/-- With room for the stores, every byte is answered. -/
theorem exists_pdStepped (c : Byte) (hroom : s.PdRoom) : ∃ t, PdStepped c s t := by
  obtain ⟨hargs, hstr⟩ := hroom
  obtain ⟨hwf, henc⟩ := decodePd_sound s.pdState c
  generalize hi : decodePd s.pdState c = i at hwf henc
  cases i <;> simp [encode] at henc
  case pdOpBad | pdBeBad | pdValBad | pdDigBad | pdDcbBad | pdStrBad | pdCbBad | pdEndBad =>
    exact ⟨_, .raise (.badRow (by rw [hi, ← henc.1]; rfl))⟩
  all_goals
    obtain ⟨hst, rfl⟩ := henc
    replace hst := hst.symm
  case pdOpOpcode => exact ⟨_, .opcode hst hwf⟩
  case pdBeLbr => exact ⟨_, .bracket hst rfl⟩
  case pdBeNul => exact ⟨_, .bare hst rfl⟩
  case pdValMinus =>
    exact exists_pdStepped_of_startsValue hst (by rw [hi]; rfl) fun hne => ⟨_, .minus hst rfl hne⟩
  case pdValDigit =>
    exact exists_pdStepped_of_startsValue hst (by rw [hi]; rfl) fun hne => ⟨_, .digit hst hwf hne⟩
  case pdValQuote =>
    refine exists_pdStepped_of_startsValue hst (by rw [hi]; rfl) fun hne => ?_
    cases hs : s.pdHasString with
    | true => exact ⟨_, .raise (.tooManyStrings hst rfl hne hs)⟩
    | false => exact ⟨_, .openQuote hst rfl hne hs⟩
  case pdDigDigit => exact ⟨_, .digitAfterMinus hst hwf⟩
  case pdDcbDigit b =>
    cases hrange : inInt16 (s.nextValue (decVal b)) with
    | true => exact ⟨_, .nextDigit hst hwf hrange⟩
    | false => exact ⟨_, .raise (.valueOutOfRange hst hwf hrange)⟩
  case pdDcbComma => exact ⟨_, .integerComma hst rfl (hargs hst)⟩
  case pdDcbRbr => exact ⟨_, .integerBracket hst rfl (hargs hst)⟩
  case pdStrQuote => exact ⟨_, .closeQuote hst rfl⟩
  case pdStrChar =>
    rcases Nat.lt_or_eq_of_le (hstr hst) with hbelow | hfull
    · exact ⟨_, .char hst hwf hbelow⟩
    · exact ⟨_, .raise (.stringTooLong hst hwf hfull)⟩
  case pdCbComma => exact ⟨_, .stringComma hst rfl⟩
  case pdCbRbr => exact ⟨_, .stringBracket hst rfl⟩
  case pdEndNul => exact ⟨_, .terminator hst rfl⟩

/-! ## What every call of `pd_step` has in common -/

theorem isPd_of_pdErrorRow {i : Instr} {st : PdState} {e : ErrorName}
    (h : pdErrorRow i = some (st, e)) : e.isPd = true := by
  unfold pdErrorRow at h
  split at h <;> cases h <;> decide

theorem PdRaises.isPd {e : ErrorName} (h : PdRaises c s e) : e.isPd = true := by
  cases h
  case badRow hrow => exact isPd_of_pdErrorRow hrow
  all_goals decide

theorem onlyWrites_raisePd (s : State) (e : ErrorName) :
    OnlyWrites pdRaiseParts s (s.raise .pd e) :=
  onlyWrites_of_mem_or_same fun p => by cases p <;> simp [Part.Same, pdRaiseParts]

/-- PD writes PD alone. -/
theorem PdStepped.onlyWrites (h : PdStepped c s t) : OnlyWrites pdParts s t := by
  cases h <;> exact onlyWrites_of_mem_or_same fun p => by cases p <;> simp [Part.Same, pdParts]

/-- A call ends with one event: `None`, the completion, or an error, which it has raised. -/
theorem PdStepped.event (h : PdStepped c s t) :
    t.response = .event .quiet ∨
      (t.response = .event .messageComplete ∧ t.pdState = .waitOpcode ∧ t.msgOpen = true) ∨
      ∃ e, PdRaised e t ∧ e.isPd = true := by
  cases h
  case bare | terminator => exact .inr (.inl ⟨rfl, rfl, rfl⟩)
  case raise he => exact .inr (.inr ⟨_, ⟨rfl, rfl, rfl, rfl⟩, he.isPd⟩)
  all_goals exact .inl rfl

theorem completes_raising_pd (e : ErrorName) (s : State) :
    Completes (raising .pd e s) fun t => PdRaised e t ∧ OnlyWrites pdRaiseParts s t :=
  ⟨_, rfl, ⟨rfl, rfl, rfl, rfl⟩, onlyWrites_raisePd s e⟩

end Rows

/-! ## The statements -/

/-- Settles O30. -/
theorem opcodeStartsAMessage : Obligations.OpcodeStartsAMessage := by
  intro s c hst hc
  refine ⟨_, exec_pdOpOpcode hst hc, rfl, rfl, rfl, rfl, rfl, rfl, rfl, rfl, rfl, rfl, ?_⟩
  exact onlyWrites_of_mem_or_same fun p => by cases p <;> simp [Part.Same]

/-- Settles O31: the eight rows are one selection and one `raise`. -/
theorem pdErrorRowsRaiseTheirError : Obligations.PdErrorRowsRaiseTheirError := by
  intro i st e s hrow hwf hst
  rw [exec_of_pdErrorRow hrow, onPd_selected _ hst hwf]
  exact completes_raising_pd e s

theorem onlyWrites_setValue (s : State) (sign : Sign) (v : Int16Bits) :
    OnlyWrites [.pdSign, .pdAcc] s (s.setValue sign v) :=
  onlyWrites_of_mem_or_same fun p => by cases p <;> simp [Part.Same]

/-- Settles O34: a digit is in range by itself. -/
theorem firstByteOfAnIntegerIsTaken : Obligations.FirstByteOfAnIntegerIsTaken := by
  intro s hst hroom
  rw [exec_pdValMinus hst, startValue_room hroom]
  refine ⟨⟨_, rfl, rfl, rfl, rfl, rfl, (onlyWrites_setValue s _ _).pdGoto_emit _ _⟩, fun c hc => ?_⟩
  rw [exec_pdValDigit hst hc, startValue_room hroom, decVal_of_isDigit hc]
  obtain ⟨-, hhi⟩ := isDigit_iff.mp hc
  exact ⟨_, rfl, rfl, toInt_toInt16 (by omega) (by omega), rfl, rfl,
    (onlyWrites_setValue s _ _).pdGoto_emit _ _⟩

/-- Settles O35. -/
theorem quoteOpensTheOnlyString : Obligations.QuoteOpensTheOnlyString := by
  intro s hst hroom
  rw [exec_pdValQuote hst, startValue_room hroom]
  refine ⟨fun hstr => ?_, fun hstr => ?_⟩
  · rw [if_neg (Bool.eq_false_iff.mp hstr)]
    exact ⟨_, rfl, rfl, rfl, rfl, rfl,
      onlyWrites_of_mem_or_same fun p => by cases p <;> simp [Part.Same]⟩
  · rw [if_pos hstr]
    exact completes_raising_pd .tooManyStrings s

/-- Settles O36: the 12-value test comes first in each of the three rows. -/
theorem thirteenthValueIsRefused : Obligations.ThirteenthValueIsRefused := by
  intro i s hi hwf hst hfull
  rw [exec_of_startsValue hi hwf hst hfull]
  exact completes_raising_pd .tooManyArguments s

theorem inInt16_iff {v : Int} : inInt16 v = true ↔ -32768 ≤ v ∧ v ≤ 32767 := by
  simp [inInt16]

/-- Settles O38: the range test is on the exact value, and in range the register holds it. -/
theorem digitAccumulatesWithinInt16 : Obligations.DigitAccumulatesWithinInt16 := by
  intro s c v hst hc hv
  have hnext : s.nextValue (decVal c) = v := by rw [decVal_of_isDigit hc, hv]; rfl
  rw [exec_pdDcbDigit hst hc, hnext]
  refine ⟨fun ⟨hlo, hhi⟩ => ?_, fun hout => ?_⟩
  · rw [if_pos (inInt16_iff.mpr ⟨hlo, hhi⟩)]
    exact ⟨_, rfl, toInt_toInt16 hlo hhi, rfl,
      (onlyWrites_setValue_keepSign s _).trans (onlyWrites_emit _ .quiet)⟩
  · rw [if_neg fun hin => by have := inInt16_iff.mp hin; omega]
    exact completes_raising_pd .valueOutOfRange s

/-- Settles O40: by the length, one below the limit and one at it. -/
theorem stringCharIsStoredUpTo32 : Obligations.StringCharIsStoredUpTo32 := by
  intro s c hst hc
  refine ⟨fun hbelow => ?_, fun hfull => ?_⟩
  · exact ⟨_, exec_pdStrChar_below hst hc hbelow, Memory.read_write_same _ _ _,
      fun _ ha => Memory.read_write_other _ _ ha, rfl, rfl,
      onlyWrites_of_mem_or_same fun p => by cases p <;> simp [Part.Same]⟩
  · rw [exec_pdStrChar_full hst hc hfull]
    exact completes_raising_pd .stringTooLong s

/-- In good order there is room for every store of PD. -/
theorem PdInv.pdRoom {s : State} (h : PdInv s) : s.PdRoom :=
  ⟨fun hst => by
    have := h.room (.inr hst)
    unfold State.nvalues at this
    omega, fun _ => h.strlen_le⟩

/-- Settles O51. -/
theorem pdStepIsTotal : Obligations.PdStepIsTotal := by
  intro s c hinv
  obtain ⟨t, ht⟩ := exists_pdStepped c hinv.pdRoom
  refine ⟨t, step_pdStep_iff.mpr ht, ?_, ht.onlyWrites⟩
  rcases ht.event with hquiet | ⟨hdone, hst, -⟩ | ⟨e, ⟨herr, hst, -, hresp⟩, hpd⟩
  · exact ⟨_, hquiet, nofun, fun hne => absurd rfl hne, nofun⟩
  · exact ⟨_, hdone, nofun, fun _ => hst, nofun⟩
  · refine ⟨_, hresp, nofun, fun _ => hst, fun x hx => ?_⟩
    cases hx
    exact ⟨herr, hpd⟩

end Sys2Proof.Machine
end

section
/-! What a whole step keeps, packaged once: a property kept by each part a transaction is made of is
kept by every step. With it, the statements about the frames of the two machines and about the two
byte spaces (10_state.md section 1, 20_memory.md sections 1 and 3). -/

namespace Sys2Proof.Machine

/-! ## The loop of BLK.DECODE -/

/-- The loop keeps whatever a call of `pd_step` keeps. -/
theorem decodeFrom_keeps {P : State → Prop} (hpd : ∀ c s t, PdStepped c s t → P s → P t)
    {n i : Nat} {s t : State} (h : decodeFrom n i s = .next t) (hs : P s) : P t := by
  induction n generalizing i s with
  | zero => cases h; exact hs
  | succ n ih =>
    obtain ⟨c, u, -, hstep, hgo | ⟨-, rfl⟩⟩ := decodeFrom_next h
    · exact ih hgo.2 (hpd c s u (pdStep_iff.mp hstep) hs)
    · exact hpd c s t (pdStep_iff.mp hstep) hs

theorem exec_blkDecode_next {s t : State} (h : exec .blkDecode s = .next t) :
    s.frameOpen = true ∧ decodeFrom (s.fxLen + 1) 0 (s.pdGoto .waitOpcode) = .next t := by
  change execBlkDecode s = .next t at h
  unfold execBlkDecode at h
  split at h
  · next hopen => exact ⟨hopen, h⟩
  · cases h

/-! ## What a transaction does -/

/-- What the operation of a transaction does to the state, transaction by transaction. -/
def TransactionDoes (s t : State) : Transaction → Prop
  | .fxStep c => FxStepped c s t
  | .pdStep c => PdStepped c s t
  | .crcStart _ _ | .crcUpdate _ _ | .crcUpdaten _ _ _ => ∃ v, t = (s.setCrc .host v).respond .done
  | .crcFinalize _ | .crcCompute _ _ => ∃ b, t = s.respond (.byte b)
  | .blkReset => exec .blkReset s = .next t
  | .blkDecode => s.frameOpen = true ∧ decodeFrom (s.fxLen + 1) 0 (s.pdGoto .waitOpcode) = .next t

theorem transaction_next {c : Transaction} {i : Instr} {s t : State}
    (hdecode : decode s.fxState s.pdState c = .ok i) (h : exec i s = .next t) : TransactionDoes s t c := by
  cases c
  case fxStep => cases hdecode; exact .of_exec h
  case pdStep => cases hdecode; exact .of_exec h
  case crcStart | crcUpdate =>
    obtain ⟨rfl, rfl⟩ := onHostAccumulator_ok.mp hdecode
    cases h
    exact ⟨_, rfl⟩
  case crcUpdaten =>
    obtain ⟨rfl, hhost⟩ := withOwnLength_ok.mp hdecode
    obtain ⟨rfl, rfl⟩ := onHostAccumulator_ok.mp hhost
    rw [exec_crcUpdaten] at h
    cases h
    exact ⟨_, rfl⟩
  case crcFinalize =>
    obtain ⟨rfl, rfl⟩ := onHostAccumulator_ok.mp hdecode
    cases h
    exact ⟨_, rfl⟩
  case crcCompute =>
    obtain ⟨rfl, hok⟩ := withOwnLength_ok.mp hdecode
    cases hok
    rw [exec_crcCompute] at h
    cases h
    exact ⟨_, rfl⟩
  case blkReset => cases hdecode; exact h
  case blkDecode => cases hdecode; exact exec_blkDecode_next h

/-! ## A property kept by the parts of a transaction -/

/-- `P` is kept by each thing a step is made of: taking the request off the queue, handing back a
result, loading the host's accumulator, a call of either machine, the restart of PD with which
BLK.DECODE begins, and BLK.RESET. -/
structure KeptByParts (P : State → Prop) : Prop where
  queue (s : State) (rest : List Request) : P s → P { s with pending := rest }
  respond (s : State) (r : Response) : P s → P (s.respond r)
  hostCrc (s : State) (v : Byte) : P s → P (s.setCrc .host v)
  fxStep (c : Byte) (s t : State) : FxStepped c s t → P s → P t
  pdStep (c : Byte) (s t : State) : PdStepped c s t → P s → P t
  restart (s : State) : P s → P (s.pdGoto .waitOpcode)
  reset (s t : State) : exec .blkReset s = .next t → P s → P t

/-- An operation that the present states select keeps what the parts keep. -/
theorem KeptByParts.exec {P : State → Prop} (hP : KeptByParts P) {c : Transaction} {i : Instr}
    {s t : State} (hdecode : decode s.fxState s.pdState c = .ok i)
    (h : Machine.exec i s = .next t) (hs : P s) : P t := by
  have hnext := transaction_next hdecode h
  cases c
  case fxStep c => exact hP.fxStep c s t hnext hs
  case pdStep c => exact hP.pdStep c s t hnext hs
  case crcStart | crcUpdate | crcUpdaten =>
    obtain ⟨v, rfl⟩ := hnext
    exact hP.respond _ _ (hP.hostCrc _ _ hs)
  case crcFinalize | crcCompute =>
    obtain ⟨b, rfl⟩ := hnext
    exact hP.respond _ _ hs
  case blkReset => exact hP.reset s t hnext hs
  case blkDecode => exact decodeFrom_keeps hP.pdStep hnext.2 (hP.restart s hs)

/-- Every step keeps what the parts keep. -/
theorem KeptByParts.step {P : State → Prop} (hP : KeptByParts P) {s t : State}
    (h : Machine.step s = .next t) (hs : P s) : P t := by
  rcases step_next h with ⟨-, rfl⟩ | ⟨r, rest, -, hread⟩ | ⟨c, rest, i, -, hdecode, hexec⟩
  · exact hs
  · obtain ⟨x, rfl, -⟩ := readOutput_next hread
    exact hP.respond _ _ (hP.queue _ _ hs)
  · exact hP.exec (s := { s with pending := rest }) hdecode hexec (hP.queue _ _ hs)

/-! ## The byte spaces -/

theorem payload_wf_kept : KeptByParts fun s => s.payload.wf Config.payloadCap = true where
  queue _ _ hs := hs
  respond _ _ hs := hs
  hostCrc _ _ hs := hs
  fxStep c s t h hs := by
    cases h
    case append hlen => exact Memory.wf_write (Nat.lt_succ_of_lt hlen) c hs
    case terminate hlen => exact Memory.wf_write hlen _ hs
    all_goals exact hs
  pdStep c s t h hs := by cases h <;> exact hs
  restart _ hs := hs
  reset s t h _ := by cases h; rfl

theorem str_wf_kept : KeptByParts fun s => s.str.wf Config.maxString = true where
  queue _ _ hs := hs
  respond _ _ hs := hs
  hostCrc _ _ hs := hs
  fxStep c s t h hs := by cases h <;> exact hs
  pdStep c s t h hs := by
    cases h
    case char hlen => exact Memory.wf_write hlen c hs
    all_goals exact hs
  restart _ hs := hs
  reset s t h _ := by cases h; rfl

/-- Settles O46: the three stores are within their spaces, and nothing else writes them. -/
theorem byteSpacesStayCanonical : Obligations.ByteSpacesStayCanonical :=
  fun _ _ hpayload hstr h => ⟨payload_wf_kept.step h hpayload, str_wf_kept.step h hstr⟩

/-! ## What a step writes -/

theorem Part.Same.refl (p : Part) (s : State) : p.Same s s := by
  cases p <;> simp [Part.Same]

theorem OnlyWrites.refl (ws : List Part) (s : State) : OnlyWrites ws s s :=
  fun p _ => Part.Same.refl p s

theorem OnlyWrites.mono {ws vs : List Part} {s t : State} (h : OnlyWrites ws s t)
    (hsub : ws ⊆ vs) : OnlyWrites vs s t :=
  fun p hp => h p fun hmem => hp (hsub hmem)

/-- Two calls with the same frame have it together. -/
theorem OnlyWrites.trans_same {ws : List Part} {s t u : State} (hst : OnlyWrites ws s t)
    (htu : OnlyWrites ws t u) : OnlyWrites ws s u :=
  (hst.trans htu).mono (by simp)

theorem onlyWrites_pending (s : State) (rest : List Request) :
    OnlyWrites [.pending] s { s with pending := rest } :=
  onlyWrites_of_mem_or_same fun p => by cases p <;> simp [Part.Same]

/-- BLK.DECODE writes PD alone. -/
theorem onlyWrites_decodeFrom {n i : Nat} {s t : State}
    (h : decodeFrom n i (s.pdGoto .waitOpcode) = .next t) : OnlyWrites pdParts s t := by
  have hrestart : OnlyWrites pdParts s (s.pdGoto .waitOpcode) :=
    (onlyWrites_pdGoto s .waitOpcode).mono (by decide)
  exact decodeFrom_keeps (P := OnlyWrites pdParts s)
    (fun c u v huv hu => hu.trans_same huv.onlyWrites) h hrestart

/-- The pieces a transaction may write; BLK.RESET may write any but the host's own. -/
def transactionWrites : Transaction → List Part
  | .fxStep _ => fxParts
  | .pdStep _ | .blkDecode => pdParts
  | .crcStart _ _ | .crcUpdate _ _ | .crcUpdaten _ _ _ => [.hostCrc, .response]
  | .crcFinalize _ | .crcCompute _ _ => [.response]
  | .blkReset => fxParts ++ pdParts ++ [.freeCount]

/-- The pieces the next step may write. -/
def State.nextWrites (s : State) : List Part :=
  match s.pending with
  | [] => []
  | .read _ :: _ => [.pending, .response]
  | .call c :: _ => .pending :: transactionWrites c

theorem onlyWrites_exec {c : Transaction} {i : Instr} {s t : State}
    (hdecode : decode s.fxState s.pdState c = .ok i) (h : exec i s = .next t) :
    OnlyWrites (transactionWrites c) s t := by
  have hnext := transaction_next hdecode h
  cases c
  case fxStep => exact FxStepped.onlyWrites hnext
  case pdStep => exact PdStepped.onlyWrites hnext
  case crcStart | crcUpdate | crcUpdaten =>
    obtain ⟨v, rfl⟩ := hnext
    exact onlyWrites_setCrc_respond s .host v .done
  case crcFinalize | crcCompute =>
    obtain ⟨b, rfl⟩ := hnext
    exact onlyWrites_respond s _
  case blkReset =>
    cases hnext
    exact onlyWrites_of_mem_or_same fun p => by
      cases p <;> simp [Part.Same, transactionWrites, fxParts, pdParts]
  case blkDecode => exact onlyWrites_decodeFrom hnext.2

/-- A step writes what its request may write. -/
theorem onlyWrites_step {s t : State} (h : step s = .next t) : OnlyWrites s.nextWrites s t := by
  rcases step_next h with ⟨-, rfl⟩ | ⟨r, rest, hp, hread⟩ | ⟨c, rest, i, hp, hdecode, hexec⟩
  · exact .refl _ _
  · obtain ⟨x, rfl, -⟩ := readOutput_next hread
    simpa [State.nextWrites, hp] using (onlyWrites_pending s rest).trans (onlyWrites_respond _ x)
  · have hwrites := onlyWrites_exec (s := { s with pending := rest }) hdecode hexec
    simpa [State.nextWrites, hp] using (onlyWrites_pending s rest).trans hwrites

/-- Only `fx_step` and BLK.RESET write a piece of FX. -/
theorem fxPart_not_written {s : State} {p : Part} (hp : p ∈ fxParts) (hne : p ≠ .response)
    (hfx : ∀ c, s.pending.head? ≠ some (.call (.fxStep c)))
    (hreset : s.pending.head? ≠ some (.call .blkReset)) : p ∉ s.nextWrites := by
  have hforeign : p ∉ pdParts ∧ p ≠ .pending ∧ p ≠ .hostCrc := by
    revert p
    decide
  unfold State.nextWrites
  split
  · simp
  · simp [hforeign, hne]
  · next c rest hpending =>
    cases c <;> simp_all [transactionWrites]

/-- Only `pd_step`, BLK.DECODE and BLK.RESET write a piece of PD. -/
theorem pdPart_not_written {s : State} {p : Part} (hp : p ∈ pdParts) (hne : p ≠ .response)
    (hpd : ∀ c, s.pending.head? ≠ some (.call (.pdStep c)))
    (hreset : s.pending.head? ≠ some (.call .blkReset))
    (hdecode : s.pending.head? ≠ some (.call .blkDecode)) : p ∉ s.nextWrites := by
  have hforeign : p ∉ fxParts ∧ p ≠ .pending ∧ p ≠ .hostCrc := by
    revert p
    decide
  unfold State.nextWrites
  split
  · simp
  · simp [hforeign, hne]
  · next c rest hpending =>
    cases c <;> simp_all [transactionWrites]

/-- Settles O52. -/
theorem eachMachineIsWrittenByItsOwnCalls : Obligations.EachMachineIsWrittenByItsOwnCalls :=
  fun _ _ h =>
    ⟨fun hfx hreset p hp hne => onlyWrites_step h p (fxPart_not_written hp hne hfx hreset),
      fun hpd hreset hdecode p hp hne =>
        onlyWrites_step h p (pdPart_not_written hp hne hpd hreset hdecode)⟩

end Sys2Proof.Machine
end

section
/-! The Frame Extractor in good order (10_state.md section 8): the invariant without the canonical form
of PAYLOAD, state by state, how each call of `fx_step` carries it on, and the proofs of the statements
about FX that follow. It holds after a start marker whatever the state before, so the proofs about
whole frames use it too. -/

namespace Sys2Proof.Machine

/-! ## Hexadecimal digits -/

theorem hexDigit_hexVal {c : Byte} : isHex c = true → hexDigit (hexVal c) = c := by
  revert c
  decide

theorem hexVal_le {c : Byte} (hc : isHex c = true) : (hexVal c).toNat ≤ 15 :=
  hexVal_toNat hc ▸ hexNat_le hc

/-- The two digits of a value are those it was made of. -/
theorem hex2_mul_16_add {hi lo : Byte} (hhi : hi.toNat ≤ 15) (hlo : lo.toNat ≤ 15) :
    hex2 (hi * 16 + lo) = [hexDigit hi, hexDigit lo] := by
  have hsum := toNat_mul_16_add hhi hlo
  have hhigh : (hi * 16 + lo) >>> 4 = hi := BitVec.eq_of_toNat_eq <| by
    rw [BitVec.toNat_ushiftRight, hsum, Nat.shiftRight_eq_div_pow]
    omega
  have hlow : (hi * 16 + lo) &&& 0x0F = lo := BitVec.eq_of_toNat_eq <| by
    rw [BitVec.toNat_and, hsum, show (0x0F : Byte).toNat = 2 ^ 4 - 1 from rfl,
      Nat.and_two_pow_sub_one_eq_mod]
    omega
  rw [hex2, hhigh, hlow]

/-- A second digit character after a one-digit value. -/
theorem hex2_with_digit {hi c : Byte} (hhi : hi.toNat ≤ 15) (hc : isHex c = true) :
    hex2 (hi * 16 + hexVal c) = [hexDigit hi, c] := by
  rw [hex2_mul_16_add hhi (hexVal_le hc), hexDigit_hexVal hc]

/-! ## The invariant, state by state -/

/-- What each sequencing state says of the registers, beside the payload and the checksum. -/
def State.fxStage (s : State) : Prop :=
  match s.fxState with
  | .awaitStart => s.frameOpen = true →
      s.payload.read s.fxLen = some 0x00 ∧ (s.fxHasId = true → s.fxClaimed = s.fxCrc)
  | .awaitPayloadOrMetadata | .awaitIdChar1 | .awaitDummy2 | .awaitDummy3 | .awaitDummy4 =>
      s.fxHasId = false
  | .awaitIdChar2 => s.fxHasId = true ∧ s.fxId.toNat ≤ 15
  | .awaitChecksum1 => s.fxHasId = true
  | .awaitChecksum2 => s.fxHasId = true ∧ s.fxClaimed.toNat ≤ 15
  | .awaitCR => s.fxHasId = true → s.fxClaimed = s.fxCrc
  | .awaitLF =>
      s.payload.read s.fxLen = some 0x00 ∧ (s.fxHasId = true → s.fxClaimed = s.fxCrc)

/-- FX is in good order with payload content `p`: `FxInv` without the canonical form of PAYLOAD. -/
structure FxOrder (s : State) (p : List Byte) : Prop where
  holds : s.HoldsPayload p
  payload : IsPayload p
  crc : ∀ bytes, s.covered p = some bytes → s.fxCrc = crcCompute bytes
  stage : s.fxStage
  closed : s.fxState ≠ .awaitStart → s.frameOpen = false
  no_id_zero : s.fxHasId = false → s.fxId = 0
  no_error : s.fxState ≠ .awaitStart ∨ s.frameOpen = true → s.fxError = none
  error_fx : ∀ e, s.fxError = some e → e.isFx = true

theorem FxInv.order {s : State} (h : FxInv s) : ∃ p, FxOrder s p := by
  obtain ⟨p, hholds, hpayload, hcrc⟩ := h.content
  have hclosed : s.fxState ≠ .awaitStart → s.frameOpen = false := fun hne =>
    Bool.eq_false_iff.mpr fun hopen => hne (h.open_at_start hopen)
  refine ⟨p, hholds, hpayload, hcrc, ?_, hclosed, h.no_id_zero, h.no_error, h.error_fx⟩
  have hterm := h.terminated
  have hid := h.id_one_digit
  have hclaimed := h.claimed_one_digit
  have hwith := h.with_id
  have hwithout := h.without_id
  have hverified := h.verified
  unfold State.fxStage
  split <;> simp_all

theorem FxOrder.len_le {s : State} {p : List Byte} (h : FxOrder s p) : s.fxLen ≤ 58 :=
  h.holds.1 ▸ h.payload.1

theorem FxOrder.fxInv {s : State} {p : List Byte} (h : FxOrder s p)
    (hwf : s.payload.wf Config.payloadCap = true) : FxInv s := by
  have hstage := h.stage
  have hclosed := h.closed
  unfold State.fxStage at hstage
  refine ⟨h.len_le, hwf, ⟨p, h.holds, h.payload, h.crc⟩, ?_, ?_, ?_, ?_, ?_, ?_, h.no_id_zero, ?_,
    h.no_error, h.error_fx⟩
  all_goals split at hstage <;> simp_all

theorem fxInv_iff (s : State) :
    FxInv s ↔ s.payload.wf Config.payloadCap = true ∧ ∃ p, FxOrder s p :=
  ⟨fun h => ⟨h.canonical, h.order⟩, fun ⟨hwf, _, h⟩ => h.fxInv hwf⟩

/-- The invariant reads FX only, and PAYLOAD element by element. -/
theorem FxOrder.congr {s t : State} {p : List Byte} (h : FxOrder s p)
    (hsame : ∀ x ∈ fxParts, x ≠ .response → x.Same s t) : FxOrder t p := by
  have hstate : t.fxState = s.fxState := hsame .fxState (by decide) (by decide)
  have hlen : t.fxLen = s.fxLen := hsame .fxLen (by decide) (by decide)
  have hread : ∀ a, t.payload.read a = s.payload.read a := hsame .payload (by decide) (by decide)
  have hhas : t.fxHasId = s.fxHasId := hsame .fxHasId (by decide) (by decide)
  have hid : t.fxId = s.fxId := hsame .fxId (by decide) (by decide)
  have hclaimed : t.fxClaimed = s.fxClaimed := hsame .fxClaimed (by decide) (by decide)
  have hcrc : t.fxCrc = s.fxCrc := hsame .fxCrc (by decide) (by decide)
  have herr : t.fxError = s.fxError := hsame .fxError (by decide) (by decide)
  have hopen : t.frameOpen = s.frameOpen := hsame .frameOpen (by decide) (by decide)
  obtain ⟨hholds, hpayload, hcovered, hstage, hclosed, hzero, hnoerr, hfx⟩ := h
  constructor <;>
    simp_all [State.HoldsPayload, State.covered, State.fxStage]

/-! ## How a call of `fx_step` carries it on -/

/-- The bytes of the frame from the start marker to the checksum or the dummy letters. -/
def frameHead (hasId : Bool) (id claimed : Byte) (p : List Byte) : List Byte :=
  if hasId then coveredFormA p id ++ hex2 claimed
  else hashMark :: p ++ [colon, lx, lx, lx, lx]

/-- The bytes FX has read since the start marker when the payload content is `p`, as its registers tell
them; in `AwaitStart` those of the frame it has just completed. -/
def State.frameSoFar (s : State) (p : List Byte) : List Byte :=
  match s.fxState with
  | .awaitStart => frameHead s.fxHasId s.fxId s.fxClaimed p ++ [cr, lf]
  | .awaitPayloadOrMetadata => hashMark :: p
  | .awaitIdChar1 => hashMark :: p ++ [colon]
  | .awaitIdChar2 => hashMark :: p ++ [colon, hexDigit s.fxId]
  | .awaitChecksum1 => coveredFormA p s.fxId
  | .awaitChecksum2 => coveredFormA p s.fxId ++ [hexDigit s.fxClaimed]
  | .awaitDummy2 => hashMark :: p ++ [colon, lx]
  | .awaitDummy3 => hashMark :: p ++ [colon, lx, lx]
  | .awaitDummy4 => hashMark :: p ++ [colon, lx, lx, lx]
  | .awaitCR => frameHead s.fxHasId s.fxId s.fxClaimed p
  | .awaitLF => frameHead s.fxHasId s.fxId s.fxClaimed p ++ [cr]

section Step

variable {s t : State} {c : Byte} {p : List Byte}

theorem isPayload_concat (hp : IsPayload p) (hlen : p.length < 58) (hc : isPayloadByte c = true) :
    IsPayload (p ++ [c]) :=
  ⟨by simpa using hlen, by simpa [or_imp, forall_and] using ⟨hp.2, hc⟩⟩

/-- A byte stored at the end of the content lengthens it. -/
theorem holdsPayload_concat (h : s.HoldsPayload p) (hmem : t.payload = s.payload.write s.fxLen c)
    (hlen : t.fxLen = s.fxLen + 1) : t.HoldsPayload (p ++ [c]) := by
  obtain ⟨hp, hread⟩ := h
  refine ⟨by simp [hlen, hp], fun i hi => ?_⟩
  rw [hmem, Memory.read_write, hp]
  split
  · next heq => simp [heq]
  · next hne =>
    have hlt : i < p.length := by simp at hi; omega
    rw [hread i hlt, List.getElem?_append_left hlt]

/-- A store behind the content leaves it. -/
theorem holdsPayload_of_write_at_len {b : Byte} (h : s.HoldsPayload p)
    (hmem : t.payload = s.payload.write s.fxLen b) (hlen : t.fxLen = s.fxLen) :
    t.HoldsPayload p := by
  obtain ⟨hp, hread⟩ := h
  refine ⟨hlen.trans hp, fun i hi => ?_⟩
  rw [hmem, Memory.read_write_other _ _ (by omega), hread i hi]

/-- After a start marker FX is in good order, whatever the state before. -/
theorem fxOrder_start (s : State) :
    FxOrder ((((s.clearFrame.crcStart .fx Config.crcSeed).crcUpdate .fx hashMark).fxGoto
      .awaitPayloadOrMetadata).emit .quiet) [] where
  holds := ⟨rfl, by simp⟩
  payload := ⟨by simp, by simp⟩
  crc bytes hb := by
    cases hb
    simp
    rfl
  stage := rfl
  closed _ := rfl
  no_id_zero _ := rfl
  no_error _ := rfl
  error_fx e he := by cases he

/-- After an error FX is in good order: outside a frame, and its window closed. -/
theorem fxOrder_raise {e : ErrorName} (hholds : s.HoldsPayload p) (hpayload : IsPayload p)
    (hzero : s.fxHasId = false → s.fxId = 0) (hclosed : s.frameOpen = false)
    (he : e.isFx = true) : FxOrder (s.raise .fx e) p where
  holds := hholds
  payload := hpayload
  crc bytes hb := by simp [State.covered, hclosed] at hb
  stage := by simp [State.fxStage, hclosed]
  closed h := absurd rfl h
  no_id_zero := hzero
  no_error := by simp [hclosed]
  error_fx := by simpa using he

theorem crcNext_of_eq_crcCompute {v b : Byte} {bytes : List Byte} (h : v = crcCompute bytes) :
    crcNext v b = crcCompute (bytes ++ [b]) := by
  rw [crcCompute_concat, h]

/-- A move within a frame: what is left to check are the registers the row writes. -/
theorem FxOrder.within {q : List Byte} (ho : FxOrder s p) (hin : s.fxState ≠ .awaitStart)
    (herr : t.fxError = s.fxError) (hopen : t.frameOpen = s.frameOpen) (hholds : t.HoldsPayload q)
    (hpayload : IsPayload q) (hcrc : ∀ bytes, t.covered q = some bytes → t.fxCrc = crcCompute bytes)
    (hstage : t.fxStage) (hzero : t.fxHasId = false → t.fxId = 0) : FxOrder t q where
  holds := hholds
  payload := hpayload
  crc := hcrc
  stage := hstage
  closed _ := hopen.trans (ho.closed hin)
  no_id_zero := hzero
  no_error _ := herr.trans (ho.no_error (.inl hin))
  error_fx e he := ho.error_fx e (herr ▸ he)

/-- A call of `fx_step` keeps FX in good order, with the payload lengthened when the byte is stored; and
within a frame, short of an error, the byte is the next one of the frame. -/
theorem FxStepped.order (h : FxStepped c s t) (ho : FxOrder s p) :
    ∃ q, FxOrder t q ∧
      (s.fxState ≠ .awaitStart → (∀ e, t.response ≠ .event (.error e)) →
        t.frameSoFar q = s.frameSoFar p ++ [c]) := by
  have hstage := ho.stage
  have hcrc := ho.crc
  have hzero := ho.no_id_zero
  cases h with
  | start hst hc => exact ⟨[], fxOrder_start s, fun hne => absurd hst hne⟩
  | skip hst hc =>
    exact ⟨p, ho.congr fun x hx hne => onlyWrites_emit s .quiet x (by simpa using hne),
      fun hne => absurd hst hne⟩
  | metadata hst hc =>
    simp only [State.fxStage, State.covered, hst] at hstage hcrc
    refine ⟨p, ho.within (by simp [hst]) rfl rfl ho.holds ho.payload ?_ hstage hzero, ?_⟩
    · rintro bytes ⟨⟩
      exact crcNext_of_eq_crcCompute (hcrc _ rfl)
    · simp [State.frameSoFar, hst, hc]
  | append hst hc hlen =>
    have hp : p.length < 58 := ho.holds.1 ▸ hlen
    simp only [State.fxStage, State.covered, hst] at hstage hcrc
    refine ⟨p ++ [c], ho.within (by simp [hst]) rfl rfl (holdsPayload_concat ho.holds rfl rfl)
      (isPayload_concat ho.payload hp hc) ?_ ?_ hzero, ?_⟩
    · intro bytes hb
      obtain rfl : hashMark :: (p ++ [c]) = bytes := by simpa [State.covered, hst] using hb
      exact crcNext_of_eq_crcCompute (hcrc _ rfl)
    · simpa [State.fxStage, hst] using hstage
    · simp [State.frameSoFar, hst]
  | tooLong hst hc hlen =>
    exact ⟨p, fxOrder_raise ho.holds ho.payload hzero (ho.closed (by simp [hst])) (by decide),
      fun _ hne => absurd rfl (hne _)⟩
  | noId hst hc =>
    simp only [State.fxStage, State.covered, hst] at hstage hcrc
    exact ⟨p, ho.within (by simp [hst]) rfl rfl ho.holds ho.payload hcrc rfl
      (fun _ => hzero hstage), by simp [State.frameSoFar, hst, hc]⟩
  | firstId hst hc =>
    simp only [State.covered, hst] at hcrc
    refine ⟨p, ho.within (by simp [hst]) rfl rfl ho.holds ho.payload ?_ ⟨rfl, hexVal_le hc⟩ nofun, ?_⟩
    · rintro bytes ⟨⟩
      simpa [hexDigit_hexVal hc] using crcNext_of_eq_crcCompute (b := c) (hcrc _ rfl)
    · simp [State.frameSoFar, hst, hexDigit_hexVal hc]
  | secondId hst hc =>
    simp only [State.fxStage, State.covered, hst] at hstage hcrc
    have hdigits : hex2 (s.fxId * 16#8 + hexVal c) = [hexDigit s.fxId, c] := hex2_with_digit hstage.2 hc
    refine ⟨p, ho.within (by simp [hst]) rfl rfl ho.holds ho.payload ?_ hstage.1
      (fun hno => absurd hstage.1 (Bool.eq_false_iff.mp hno)), ?_⟩
    · rintro bytes ⟨⟩
      simpa [hdigits] using crcNext_of_eq_crcCompute (b := c) (hcrc _ rfl)
    · simpa [State.frameSoFar, hst, coveredFormA] using hdigits
  | firstClaimed hst hc =>
    simp only [State.fxStage, State.covered, hst] at hstage hcrc
    exact ⟨p, ho.within (by simp [hst]) rfl rfl ho.holds ho.payload hcrc ⟨hstage, hexVal_le hc⟩
      hzero, by simp [State.frameSoFar, hst, hexDigit_hexVal hc]⟩
  | verified hst hc heq =>
    simp only [State.fxStage, State.covered, hst] at hstage hcrc
    have hdigits : hex2 (s.fxClaimed * 16#8 + hexVal c) = [hexDigit s.fxClaimed, c] :=
      hex2_with_digit hstage.2 hc
    refine ⟨p, ho.within (by simp [hst]) rfl rfl ho.holds ho.payload ?_ (fun _ => heq) hzero, ?_⟩
    · simpa [State.covered, hstage.1] using hcrc
    · simpa [State.frameSoFar, frameHead, hst, hstage.1] using hdigits
  | mismatch hst hc _ =>
    exact ⟨p, fxOrder_raise ho.holds ho.payload hzero (ho.closed (by simp [hst])) (by decide),
      fun _ hne => absurd rfl (hne _)⟩
  | dummy2 hst hc | dummy3 hst hc =>
    simp only [State.fxStage, State.covered, hst] at hstage hcrc
    exact ⟨p, ho.within (by simp [hst]) rfl rfl ho.holds ho.payload hcrc hstage hzero,
      by simp [State.frameSoFar, hst, hc]⟩
  | dummy4 hst hc =>
    simp only [State.fxStage, State.covered, hst] at hstage hcrc
    refine ⟨p, ho.within (by simp [hst]) rfl rfl ho.holds ho.payload ?_ ?_ hzero, ?_⟩
    · simpa [State.covered, hstage] using hcrc
    · simp [State.fxStage, hstage]
    · simp [State.frameSoFar, frameHead, hst, hc, hstage]
  | terminate hst hc hlen =>
    simp only [State.fxStage, State.covered, hst] at hstage hcrc
    exact ⟨p, ho.within (by simp [hst]) rfl rfl (holdsPayload_of_write_at_len ho.holds rfl rfl)
      ho.payload hcrc ⟨Memory.read_write_same _ _ _, hstage⟩ hzero,
      by simp [State.frameSoFar, hst, hc, frameHead]⟩
  | complete hst hc =>
    simp only [State.fxStage, State.covered, hst] at hstage hcrc
    refine ⟨p, ⟨ho.holds, ho.payload, ?_, fun _ => hstage, fun h => absurd rfl h, hzero,
      fun _ => ho.no_error (.inl (by simp [hst])), ho.error_fx⟩, ?_⟩
    · exact hcrc
    · simp [State.frameSoFar, hst, hc]
  | raise hrow =>
    obtain ⟨hin, he⟩ := fxErrorRow_inside hrow
    exact ⟨p, fxOrder_raise ho.holds ho.payload hzero (ho.closed hin) he,
      fun _ hne => absurd rfl (hne _)⟩

end Step

/-! ## Every step keeps it -/

/-- Writes outside FX leave it in good order. -/
theorem FxOrder.of_onlyWrites {ws : List Part} {s t : State} {p : List Byte} (h : FxOrder s p)
    (hw : OnlyWrites ws s t) (hforeign : ∀ x ∈ fxParts, x ≠ .response → x ∉ ws) : FxOrder t p :=
  h.congr fun x hx hne => hw x (hforeign x hx hne)

/-- FX with its registers at their reset values is in good order, whatever PAYLOAD holds. -/
theorem fxOrder_initial {s : State} (hst : s.fxState = .awaitStart) (hlen : s.fxLen = 0)
    (hid : s.fxId = 0) (herr : s.fxError = none) (hclosed : s.frameOpen = false) :
    FxOrder s [] where
  holds := ⟨hlen, by simp⟩
  payload := ⟨by simp, by simp⟩
  crc := by simp [State.covered, hst, hclosed]
  stage := by simp [State.fxStage, hst, hclosed]
  closed _ := hclosed
  no_id_zero _ := hid
  no_error _ := herr
  error_fx := by simp [herr]

theorem fxOrder_kept : KeptByParts fun s => ∃ p, FxOrder s p where
  queue s rest := fun ⟨p, h⟩ => ⟨p, h.of_onlyWrites (onlyWrites_pending s rest) (by decide)⟩
  respond s r := fun ⟨p, h⟩ => ⟨p, h.of_onlyWrites (onlyWrites_respond s r) (by decide)⟩
  hostCrc s v := fun ⟨p, h⟩ => ⟨p, h.of_onlyWrites (onlyWrites_setCrc s .host v) (by decide)⟩
  fxStep c s t hstep := fun ⟨p, h⟩ =>
    let ⟨q, hq, _⟩ := hstep.order h
    ⟨q, hq⟩
  pdStep c s t hstep := fun ⟨p, h⟩ => ⟨p, h.of_onlyWrites hstep.onlyWrites (by decide)⟩
  restart s := fun ⟨p, h⟩ => ⟨p, h.of_onlyWrites (onlyWrites_pdGoto s .waitOpcode) (by decide)⟩
  reset s t hexec _ := by
    cases hexec
    exact ⟨[], fxOrder_initial rfl rfl rfl rfl rfl⟩

/-- Settles O47: the canonical form and the rest of the invariant are each kept by every step. -/
theorem everyStepKeepsFxInOrder : Obligations.EveryStepKeepsFxInOrder := by
  intro s t hinv h
  rw [fxInv_iff] at hinv ⊢
  exact ⟨payload_wf_kept.step h hinv.1, fxOrder_kept.step h hinv.2⟩

end Sys2Proof.Machine
end

section
/-! The Payload Decoder in good order (10_state.md section 8): the invariant without the canonical form
of STR, how each call of `pd_step` carries it on, and the proofs of the statements about PD and about
the whole block that follow. It holds after an accepted opcode whatever the state before, so the proofs
about BLK.DECODE and about whole messages use it too. -/

namespace Sys2Proof.Machine

/-! ## Spans -/

theorem Memory.readSpan_ok_iff {m : Memory} {lo n : Nat} {bs : List Byte} :
    m.readSpan lo n = .ok bs ↔ bs.length = n ∧ ∀ i, i < n → m.read (lo + i) = bs[i]? := by
  constructor
  · intro h
    induction n generalizing lo bs with
    | zero => cases h; simp
    | succ n ih =>
      simp only [Memory.readSpan] at h
      split at h
      · cases h
      · next b hb =>
        split at h
        · cases h
        · next rest hrest =>
          cases h
          obtain ⟨hlen, hread⟩ := ih hrest
          refine ⟨by simp [hlen], fun i hi => ?_⟩
          cases i with
          | zero => exact hb
          | succ i => simpa [Nat.add_assoc, Nat.add_comm 1 i] using hread i (by omega)
  · rintro ⟨rfl, hread⟩
    exact Memory.readSpan_eq_ok hread

/-- A byte stored behind a span lengthens it. -/
theorem Memory.readSpan_write_end {m : Memory} {n : Nat} {bs : List Byte} (c : Byte)
    (h : m.readSpan 0 n = .ok bs) : (m.write n c).readSpan 0 (n + 1) = .ok (bs ++ [c]) := by
  obtain ⟨hlen, hread⟩ := Memory.readSpan_ok_iff.mp h
  refine Memory.readSpan_ok_iff.mpr ⟨by simp [hlen], fun i hi => ?_⟩
  rw [Nat.zero_add, Memory.read_write]
  split
  · next heq => simp [heq, ← hlen]
  · next hne =>
    have hlt : i < n := by omega
    rw [List.getElem?_append_left (by omega), ← hread i hlt, Nat.zero_add]

theorem Memory.readSpan_congr {m m' : Memory} {lo n : Nat} {bs : List Byte}
    (hread : ∀ a, m'.read a = m.read a) (h : m.readSpan lo n = .ok bs) :
    m'.readSpan lo n = .ok bs := by
  rw [Memory.readSpan_ok_iff] at h ⊢
  exact ⟨h.1, fun i hi => (hread _).trans (h.2 i hi)⟩

/-! ## The invariant, state by state -/

/-- What each sequencing state says of the values read so far. -/
def State.pdStage (s : State) : Prop :=
  match s.pdState with
  | .waitOpcode | .waitValue | .waitEnd => True
  | .waitBracketOrEnd => s.pdArgc = 0 ∧ s.pdHasString = false
  | .waitDigit => s.nvalues ≤ 11 ∧ s.pdAcc = 0 ∧ s.pdSign = .minus
  | .waitDigitsOrCommaOrBracket => s.nvalues ≤ 11
  | .waitString | .waitCommaOrBracket => s.pdHasString = true

/-- PD is in good order: `PdInv` without the canonical form of STR. -/
structure PdOrder (s : State) : Prop where
  strlen_le : s.pdStrlen ≤ 32
  nvalues_le : s.nvalues ≤ 12
  string : ∃ cs, s.str.readSpan 0 s.pdStrlen = .ok cs ∧ ∀ c ∈ cs, isStrch c = true
  no_string_empty : s.pdHasString = false → s.pdStrlen = 0
  stage : s.pdStage
  closed : s.pdState ≠ .waitOpcode → s.msgOpen = false
  message : s.pdState ≠ .waitOpcode ∨ s.msgOpen = true →
    s.pdError = none ∧ isOpch s.pdOpcode = true
  error_pd : ∀ e, s.pdError = some e → e.isPd = true

theorem PdInv.order {s : State} (h : PdInv s) : PdOrder s := by
  have hclosed : s.pdState ≠ .waitOpcode → s.msgOpen = false := fun hne =>
    Bool.eq_false_iff.mpr fun hopen => hne (h.open_at_opcode hopen)
  refine ⟨h.strlen_le, h.nvalues_le, h.string, h.no_string_empty, ?_, hclosed,
    fun hin => ⟨h.no_error hin, h.opcode hin⟩, h.error_pd⟩
  have hroom := h.room
  have hfresh := h.fresh
  have hbare := h.bare
  have hstr := h.in_string
  unfold State.pdStage
  split <;> simp_all

theorem PdOrder.pdInv {s : State} (h : PdOrder s) (hwf : s.str.wf Config.maxString = true) :
    PdInv s := by
  have hstage := h.stage
  have hclosed := h.closed
  unfold State.pdStage at hstage
  refine ⟨h.strlen_le, h.nvalues_le, hwf, h.string, ?_, ?_, h.no_string_empty, ?_, ?_, ?_,
    fun hin => (h.message hin).1, fun hin => (h.message hin).2, h.error_pd⟩
  all_goals split at hstage <;> simp_all

theorem pdInv_iff (s : State) : PdInv s ↔ s.str.wf Config.maxString = true ∧ PdOrder s :=
  ⟨fun h => ⟨h.canonical, h.order⟩, fun ⟨hwf, h⟩ => h.pdInv hwf⟩

/-- The invariant reads PD only, and STR element by element. -/
theorem PdOrder.congr {s t : State} (h : PdOrder s)
    (hsame : ∀ x ∈ pdParts, x ≠ .response → x.Same s t) : PdOrder t := by
  have hstate : t.pdState = s.pdState := hsame .pdState (by decide) (by decide)
  have hopcode : t.pdOpcode = s.pdOpcode := hsame .pdOpcode (by decide) (by decide)
  have hargc : t.pdArgc = s.pdArgc := hsame .pdArgc (by decide) (by decide)
  have hread : ∀ a, t.str.read a = s.str.read a := hsame .str (by decide) (by decide)
  have hlen : t.pdStrlen = s.pdStrlen := hsame .pdStrlen (by decide) (by decide)
  have hhas : t.pdHasString = s.pdHasString := hsame .pdHasString (by decide) (by decide)
  have hacc : t.pdAcc = s.pdAcc := hsame .pdAcc (by decide) (by decide)
  have hsign : t.pdSign = s.pdSign := hsame .pdSign (by decide) (by decide)
  have herr : t.pdError = s.pdError := hsame .pdError (by decide) (by decide)
  have hopen : t.msgOpen = s.msgOpen := hsame .msgOpen (by decide) (by decide)
  have hspan : t.str.readSpan 0 s.pdStrlen = s.str.readSpan 0 s.pdStrlen := by
    obtain ⟨cs, hcs, -⟩ := h.string
    rw [hcs, Memory.readSpan_congr hread hcs]
  obtain ⟨hstrlen, hnvalues, hstring, hempty, hstage, hclosed, hmessage, hpd⟩ := h
  constructor <;> simp_all [State.nvalues, State.pdStage]

/-- Writes outside PD leave it in good order. -/
theorem PdOrder.of_onlyWrites {ws : List Part} {s t : State} (h : PdOrder s)
    (hw : OnlyWrites ws s t) (hforeign : ∀ x ∈ pdParts, x ≠ .response → x ∉ ws) : PdOrder t :=
  h.congr fun x hx hne => hw x (hforeign x hx hne)

/-! ## How a call of `pd_step` carries it on -/

section Step

variable {s t : State} {c : Byte}

theorem nvalues_of_argc_add {n : Nat} (hargc : t.pdArgc = s.pdArgc + n)
    (hhas : t.pdHasString = s.pdHasString) : t.nvalues = s.nvalues + n := by
  simp only [State.nvalues, hargc, hhas]
  omega

/-- One more integer where there is room for it. -/
theorem nvalues_le_of_argc_succ (hargc : t.pdArgc = s.pdArgc + 1)
    (hhas : t.pdHasString = s.pdHasString) (hroom : s.nvalues ≤ 11) : t.nvalues ≤ 12 :=
  (nvalues_of_argc_add hargc hhas).trans_le (Nat.succ_le_succ hroom)

/-- After an accepted opcode PD is in good order, whatever the state before. -/
theorem pdOrder_opcode (s : State) (hc : isOpch c = true) :
    PdOrder (((s.clearMessage c).pdGoto .waitBracketOrEnd).emit .quiet) where
  strlen_le := Nat.zero_le _
  nvalues_le := Nat.zero_le _
  string := ⟨[], rfl, by simp⟩
  no_string_empty _ := rfl
  stage := ⟨rfl, rfl⟩
  closed _ := rfl
  message _ := ⟨rfl, hc⟩
  error_pd e he := by cases he

/-- An error leaves the counts and the string, and closes the window. -/
theorem PdOrder.raise {e : ErrorName} (ho : PdOrder s) (he : e.isPd = true) :
    PdOrder (s.raise .pd e) where
  strlen_le := ho.strlen_le
  nvalues_le := ho.nvalues_le
  string := ho.string
  no_string_empty := ho.no_string_empty
  stage := trivial
  closed _ := rfl
  message := by simp
  error_pd := by simpa using he

/-- The end of a message opens the window on what was read. -/
theorem PdOrder.complete (ho : PdOrder s) (hin : s.pdState ≠ .waitOpcode) :
    PdOrder (((s.pdGoto .waitOpcode).openMessage).emit .messageComplete) where
  strlen_le := ho.strlen_le
  nvalues_le := ho.nvalues_le
  string := ho.string
  no_string_empty := ho.no_string_empty
  stage := trivial
  closed h := absurd rfl h
  message _ := ho.message (.inl hin)
  error_pd := ho.error_pd

/-- A move within a message: what is left to check are the counts and the string. -/
theorem PdOrder.within (ho : PdOrder s) (hin : s.pdState ≠ .waitOpcode)
    (herr : t.pdError = s.pdError) (hop : t.pdOpcode = s.pdOpcode) (hopen : t.msgOpen = s.msgOpen)
    (hstrlen : t.pdStrlen ≤ 32) (hnvalues : t.nvalues ≤ 12)
    (hstring : ∃ cs, t.str.readSpan 0 t.pdStrlen = .ok cs ∧ ∀ c ∈ cs, isStrch c = true)
    (hempty : t.pdHasString = false → t.pdStrlen = 0) (hstage : t.pdStage) : PdOrder t where
  strlen_le := hstrlen
  nvalues_le := hnvalues
  string := hstring
  no_string_empty := hempty
  stage := hstage
  closed _ := hopen.trans (ho.closed hin)
  message _ := by rw [herr, hop]; exact ho.message (.inl hin)
  error_pd e he := ho.error_pd e (herr ▸ he)

/-- A move within a message that keeps the counts and the string. -/
theorem PdOrder.move (ho : PdOrder s) (hin : s.pdState ≠ .waitOpcode)
    (hw : OnlyWrites [.pdState, .pdAcc, .pdSign, .response] s t) (hstr : t.str = s.str)
    (hstage : t.pdStage) : PdOrder t := by
  have hlen : t.pdStrlen = s.pdStrlen := hw .pdStrlen (by decide)
  have hargc : t.pdArgc = s.pdArgc := hw .pdArgc (by decide)
  have hhas : t.pdHasString = s.pdHasString := hw .pdHasString (by decide)
  have hnvalues : t.nvalues = s.nvalues := nvalues_of_argc_add (n := 0) hargc hhas
  exact ho.within hin (hw .pdError (by decide)) (hw .pdOpcode (by decide)) (hw .msgOpen (by decide))
    (hlen ▸ ho.strlen_le) (hnvalues ▸ ho.nvalues_le) (by rw [hstr, hlen]; exact ho.string)
    (by rw [hhas, hlen]; exact ho.no_string_empty) hstage

theorem PdStepped.order (h : PdStepped c s t) (ho : PdOrder s) : PdOrder t := by
  have hstage := ho.stage
  have hnvalues := ho.nvalues_le
  unfold State.pdStage at hstage
  cases h with
  | opcode hst hc => exact pdOrder_opcode s hc
  | bare hst hc | terminator hst hc => exact ho.complete (by simp [hst])
  | raise he => exact ho.raise he.isPd
  | bracket hst hc | stringComma hst hc | stringBracket hst hc =>
    exact ho.move (by simp [hst])
      (((onlyWrites_pdGoto s _).trans (onlyWrites_emit _ _)).mono (by decide)) rfl trivial
  | closeQuote hst hc =>
    simp only [hst] at hstage
    exact ho.move (by simp [hst])
      (((onlyWrites_pdGoto s _).trans (onlyWrites_emit _ _)).mono (by decide)) rfl hstage
  | minus hst hc hroom =>
    have hle : s.nvalues ≤ 11 := by omega
    exact ho.move (by simp [hst])
      (((onlyWrites_setValue s _ _).pdGoto_emit _ _).mono (by decide)) rfl ⟨hle, rfl, rfl⟩
  | digit hst hc hroom =>
    have hle : s.nvalues ≤ 11 := by omega
    exact ho.move (by simp [hst])
      (((onlyWrites_setValue s _ _).pdGoto_emit _ _).mono (by decide)) rfl hle
  | digitAfterMinus hst hc =>
    simp only [hst] at hstage
    exact ho.move (by simp [hst])
      (((onlyWrites_setValue s _ _).pdGoto_emit _ _).mono (by decide)) rfl hstage.1
  | nextDigit hst hc hrange =>
    simp only [hst] at hstage
    exact ho.move (by simp [hst])
      (((onlyWrites_setValue s _ _).trans (onlyWrites_emit _ _)).mono (by decide)) rfl
      (by simp only [State.pdStage, State.emit_pdState, State.setValue_pdState, hst]; exact hstage)
  | integerComma hst hc hk | integerBracket hst hc hk =>
    simp only [hst] at hstage
    exact ho.within (by simp [hst]) rfl rfl rfl ho.strlen_le
      (nvalues_le_of_argc_succ (s := s) rfl rfl hstage)
      ho.string ho.no_string_empty trivial
  | openQuote hst hc hroom hstr =>
    simp only [State.nvalues, hstr] at hnvalues hroom
    exact ho.within (by simp [hst]) rfl rfl rfl (Nat.zero_le _)
      (by simp [State.nvalues]; simp at hnvalues hroom; omega) ⟨[], rfl, by simp⟩ nofun rfl
  | char hst hc hlen =>
    simp only [hst] at hstage
    obtain ⟨cs, hcs, hstrch⟩ := ho.string
    refine ho.within (by simp [hst]) rfl rfl rfl hlen hnvalues
      ⟨cs ++ [c], Memory.readSpan_write_end c hcs, ?_⟩
      (fun hno => absurd hstage (Bool.eq_false_iff.mp hno)) (by simpa [State.pdStage, hst] using hstage)
    simpa [or_imp, forall_and] using ⟨hstrch, hc⟩

end Step

/-! ## Every step keeps it -/

/-- PD with its registers at their reset values is in good order, whatever STR and ARGS hold. -/
theorem pdOrder_initial {s : State} (hst : s.pdState = .waitOpcode) (hargc : s.pdArgc = 0)
    (hhas : s.pdHasString = false) (hlen : s.pdStrlen = 0) (herr : s.pdError = none)
    (hclosed : s.msgOpen = false) : PdOrder s where
  strlen_le := by simp [hlen]
  nvalues_le := by simp [State.nvalues, hargc, hhas]
  string := ⟨[], by simp [hlen, Memory.readSpan], by simp⟩
  no_string_empty _ := hlen
  stage := by simp [State.pdStage, hst]
  closed _ := hclosed
  message := by simp [hst, hclosed]
  error_pd := by simp [herr]

theorem pdOrder_kept : KeptByParts PdOrder where
  queue s rest h := h.of_onlyWrites (onlyWrites_pending s rest) (by decide)
  respond s r h := h.of_onlyWrites (onlyWrites_respond s r) (by decide)
  hostCrc s v h := h.of_onlyWrites (onlyWrites_setCrc s .host v) (by decide)
  fxStep c s t hstep h := h.of_onlyWrites hstep.onlyWrites (by decide)
  pdStep c s t hstep h := hstep.order h
  restart s h := ⟨h.strlen_le, h.nvalues_le, h.string, h.no_string_empty, trivial,
    fun hne => absurd rfl hne, fun hin => h.message (.inr (by simpa using hin)), h.error_pd⟩
  reset s t hexec _ := by
    cases hexec
    exact pdOrder_initial rfl rfl rfl rfl rfl rfl

/-- Settles O48: the canonical form and the rest of the invariant are each kept by every step. -/
theorem everyStepKeepsPdInOrder : Obligations.EveryStepKeepsPdInOrder := by
  intro s t hinv h
  rw [pdInv_iff] at hinv ⊢
  exact ⟨str_wf_kept.step h hinv.1, pdOrder_kept.step h hinv.2⟩

/-! ## Reset -/

/-- The reset values put both machines in good order. -/
theorem blockInv_reset : BlockInv State.reset where
  fx := (fxOrder_initial rfl rfl rfl rfl rfl).fxInv reset_payload_wf
  pd := (pdOrder_initial rfl rfl rfl rfl rfl rfl).pdInv reset_str_wf

/-- Settles O7. -/
theorem resetIsInGoodOrder : Obligations.ResetIsInGoodOrder := blockInv_reset

/-- Settles O6: the values stand in the definition; only the twelve entries of ARGS take a look. -/
theorem resetLeavesInitialValues : Obligations.ResetLeavesInitialValues := by
  have hargs : ∀ v ∈ State.reset.args.toList, v = 0 := fun v hv => by
    simpa [State.reset] using hv
  exact ⟨rfl, rfl, rfl, rfl, rfl, rfl, rfl, rfl, rfl, rfl, rfl, rfl, rfl, rfl, rfl, rfl, rfl,
    fun _ => rfl, fun _ => rfl, hargs, rfl, rfl⟩

/-- Settles O8. -/
theorem blkResetLeavesResetValues : Obligations.BlkResetLeavesResetValues := by
  intro s
  refine ⟨_, rfl, rfl, rfl, rfl, rfl, rfl, rfl, rfl, rfl, rfl, rfl, rfl, rfl, rfl, rfl, rfl, rfl, rfl,
    fun _ => rfl, fun _ => rfl, rfl, rfl, rfl, ?_, ?_⟩
  · exact (fxOrder_initial rfl rfl rfl rfl rfl).fxInv (Memory.wf_nil _)
  · exact (pdOrder_initial rfl rfl rfl rfl rfl rfl).pdInv (Memory.wf_nil _)

end Sys2Proof.Machine
end

section
/-! BLK.DECODE, the reads, and what can stop the block (43_block_operations.md, 60_exceptions.md
section 5): the loop against `pd_step` byte by byte, in one run and in two, and the proofs of the
statements about them. -/

namespace Sys2Proof.Machine

/-! ## Feeding bytes one call at a time -/

section Feed

variable {call : Byte → Transaction} {c : Byte} {bs : List Byte} {s t u : State}
  {rs : List Response}

theorem feed_cons (hstep : step (s.present (call c)) = .next t)
    (hrest : feed call bs t = some (rs, u)) :
    feed call (c :: bs) s = some (t.response :: rs, u) := by
  simp [feed, hstep, hrest]

theorem feed_cons_some (h : feed call (c :: bs) s = some (rs, u)) :
    ∃ t rest, step (s.present (call c)) = .next t ∧ feed call bs t = some (rest, u) ∧
      rs = t.response :: rest := by
  simp only [feed] at h
  split at h
  · next t hstep =>
    split at h
    · next rest v hrest =>
      cases h
      exact ⟨t, rest, hstep, hrest, rfl⟩
    · cases h
  · cases h

theorem firstEventLast_succ (n : Nat) (e : Event) :
    firstEventLast (n + 1) e = .event .quiet :: firstEventLast n e := rfl

end Feed

/-! ## The loop is `pd_step` up to the first event -/

section Loop

variable {s t : State} {c : Byte}

/-- PD can take a byte without its contents having to be in order: it waits for an opcode, or is in
order. -/
def State.PdReady (s : State) : Prop := s.pdState = .waitOpcode ∨ PdOrder s

theorem PdOrder.pdRoom (h : PdOrder s) : s.PdRoom := by
  refine ⟨fun hst => ?_, fun _ => h.strlen_le⟩
  have hstage := h.stage
  simp only [State.pdStage, hst, State.nvalues] at hstage
  omega

theorem State.PdReady.pdRoom (h : s.PdReady) : s.PdRoom := by
  rcases h with hst | ho
  · exact ⟨by simp [hst], by simp [hst]⟩
  · exact ho.pdRoom

/-- PD ended with event `e`: the message was completed, or an error was raised. -/
def PdEnded (e : Event) (t : State) : Prop :=
  t.response = .event e ∧
    ((e = .messageComplete ∧ t.msgOpen = true) ∨ ∃ x, e = .error x ∧ PdRaised x t)

theorem PdEnded.ne_quiet {e : Event} (h : PdEnded e t) : e ≠ .quiet := by
  rcases h.2 with ⟨rfl, -⟩ | ⟨x, rfl, -⟩ <;> simp

theorem PdStepped.quiet_or_ended (h : PdStepped c s t) :
    t.response = .event .quiet ∨ ∃ e, PdEnded e t := by
  rcases h.event with hquiet | ⟨hdone, -, hopen⟩ | ⟨e, hraised, -⟩
  · exact .inl hquiet
  · exact .inr ⟨_, hdone, .inl ⟨rfl, hopen⟩⟩
  · exact .inr ⟨_, hraised.2.2.2, .inr ⟨e, rfl, hraised⟩⟩

/-- A call without an event leaves PD within a message, in order. -/
theorem PdStepped.order_of_quiet (h : PdStepped c s t) (hs : s.PdReady)
    (hquiet : t.response = .event .quiet) : PdOrder t := by
  rcases hs with hst | ho
  · cases h
    case opcode hc => exact pdOrder_opcode s hc
    case raise => cases hquiet
    all_goals simp_all
  · exact h.order ho

/-- The terminator gives an event in every state of PD. -/
theorem PdStepped.nul_not_quiet (h : PdStepped nul s t) : t.response ≠ .event .quiet := by
  cases h
  case bare | terminator | raise => simp
  case opcode hc | digit hc _ | digitAfterMinus hc | nextDigit hc _ | char hc _ =>
    exact absurd hc (by decide)
  all_goals exact absurd ‹nul = _› (by decide)

theorem decodeFrom_succ {n i : Nat} (hi : i < 59) (hread : s.payload.read i = some c)
    (hstep : PdStepped c s t) :
    decodeFrom (n + 1) i s =
      if t.response = .event .quiet then decodeFrom n (i + 1) t else .next t := by
  simp only [decodeFrom, loadPayload_read hi hread, pdStep_iff.mpr hstep]

/-- On bytes that hold the terminator the loop is `pd_step` on them up to the first event. -/
theorem decodeFrom_feed {bs : List Byte} {i : Nat} {s : State}
    (hread : ∀ j, j < bs.length → s.payload.read (i + j) = bs[j]?) (hcap : i + bs.length ≤ 59)
    (hnul : nul ∈ bs) (hs : s.PdReady) :
    ∃ k e t, k < bs.length ∧ PdEnded e t ∧
      feed .pdStep (bs.take (k + 1)) s = some (firstEventLast k e, t) ∧
      decodeFrom bs.length i s = .next t := by
  induction bs generalizing i s with
  | nil => cases hnul
  | cons b bs ih =>
    have hb : s.payload.read i = some b := by simpa using hread 0 (by simp)
    have hi : i < 59 := by simp at hcap; omega
    obtain ⟨u, hu⟩ := exists_pdStepped b hs.pdRoom
    rw [List.length_cons, decodeFrom_succ hi hb hu]
    rcases hu.quiet_or_ended with hquiet | ⟨e, hended⟩
    · have hrest : nul ∈ bs := by
        rcases List.mem_cons.mp hnul with rfl | hmem
        · exact absurd hquiet hu.nul_not_quiet
        · exact hmem
      have hread' : ∀ j, j < bs.length → u.payload.read (i + 1 + j) = bs[j]? := fun j hj => by
        have hsame : u.payload.read (i + 1 + j) = s.payload.read (i + 1 + j) :=
          hu.onlyWrites .payload (by decide) _
        rw [hsame, Nat.add_assoc, Nat.add_comm 1 j, hread (j + 1) (by simpa using hj)]
        rfl
      obtain ⟨k, e, t, hk, hended, hfeed, hloop⟩ :=
        ih hread' (by simp at hcap; omega) hrest (.inr (hu.order_of_quiet hs hquiet))
      refine ⟨k + 1, e, t, by simpa using hk, hended, ?_, by rw [if_pos hquiet, hloop]⟩
      rw [List.take_succ_cons, firstEventLast_succ, ← hquiet]
      exact feed_cons (step_pdStep_iff.mpr hu) hfeed
    · refine ⟨0, e, u, by simp, hended, ?_, if_neg ?_⟩
      · rw [show firstEventLast 0 e = [u.response] by rw [hended.1]; rfl]
        exact feed_cons (step_pdStep_iff.mpr hu) rfl
      · rw [hended.1]
        simpa using hended.ne_quiet

end Loop

/-! ## The content and its terminator in the frame window -/

section Window

variable {s : State} {p : List Byte}

theorem FxInv.read_terminated (hinv : FxInv s) (hopen : s.frameOpen = true)
    (hp : s.HoldsPayload p) :
    ∀ i, i < (p ++ [(0x00 : Byte)]).length → s.payload.read (0 + i) = (p ++ [0x00])[i]? := by
  obtain ⟨hlen, hread⟩ := hp
  intro i hi
  rw [Nat.zero_add]
  rcases Nat.lt_or_ge i p.length with hlt | hge
  · rw [List.getElem?_append_left hlt, hread i hlt]
  · obtain rfl : i = s.fxLen := by simp at hi; omega
    rw [hinv.terminated (.inr hopen)]
    simp [hlen]

/-- In the frame window BLK.DECODE ends with an event of PD, at some byte of the content and its
terminator. -/
theorem exec_blkDecode_feed (hinv : FxInv s) (hopen : s.frameOpen = true)
    (hp : s.HoldsPayload p) :
    ∃ k e t, k ≤ p.length ∧ PdEnded e t ∧
      feed .pdStep ((p ++ [0x00]).take (k + 1)) (s.pdGoto .waitOpcode) =
        some (firstEventLast k e, t) ∧
      exec .blkDecode s = .next t := by
  have hlen : (p ++ [(0x00 : Byte)]).length = s.fxLen + 1 := by simp [hp.1]
  have hcap : 0 + (p ++ [(0x00 : Byte)]).length ≤ 59 := by have := hinv.len_le; omega
  obtain ⟨k, e, t, hk, hended, hfeed, hloop⟩ :=
    decodeFrom_feed (s := s.pdGoto .waitOpcode) (hinv.read_terminated hopen hp) hcap
      (List.mem_append_right p (List.mem_singleton_self nul)) (.inl rfl)
  refine ⟨k, e, t, by simpa [Nat.lt_succ_iff] using hk, hended, hfeed, ?_⟩
  rw [hlen] at hloop
  exact (if_pos hopen).trans hloop

end Window

/-- Settles O41. -/
theorem blkDecodeFeedsPdUpToTheFirstEvent : Obligations.BlkDecodeFeedsPdUpToTheFirstEvent := by
  intro s p hinv hopen hp
  obtain ⟨k, e, t, hk, hended, hfeed, hexec⟩ := exec_blkDecode_feed hinv hopen hp
  exact ⟨k, e, t, hk, hended.ne_quiet, hfeed, hexec, onlyWrites_decodeFrom (exec_blkDecode_next hexec).2⟩

end Sys2Proof.Machine
end

section
/-! Two runs of BLK.DECODE on the same payload (43_block_operations.md section 2 (c)): what PD held
before does not matter once an opcode is accepted. -/

namespace Sys2Proof.Machine

/-- Two states hold the same message so far: the registers of PD are equal, and ARGS and STR are, as far
as they are in use. -/
structure PdAlike (s s' : State) : Prop where
  state : s'.pdState = s.pdState
  opcode : s'.pdOpcode = s.pdOpcode
  argc : s'.pdArgc = s.pdArgc
  args : ∀ k, k < s.pdArgc → s'.args[k]? = s.args[k]?
  hasString : s'.pdHasString = s.pdHasString
  strlen : s'.pdStrlen = s.pdStrlen
  str : ∀ j, j < s.pdStrlen → s'.str.read j = s.str.read j
  acc : s'.pdAcc = s.pdAcc
  sign : s'.pdSign = s.pdSign
  error : s'.pdError = s.pdError
  window : s'.msgOpen = s.msgOpen

/-- Two calls had the same outcome: event, error register and window, and short of an error the same
message. -/
structure SameOutcome (t t' : State) : Prop where
  response : t'.response = t.response
  error : t'.pdError = t.pdError
  window : t'.msgOpen = t.msgOpen
  message : (∀ e, t.response ≠ .event (.error e)) → PdAlike t t'

section Step

variable {s s' t t' : State} {c : Byte}

theorem PdAlike.nvalues (h : PdAlike s s') : s'.nvalues = s.nvalues := by
  rw [State.nvalues, State.nvalues, h.argc, h.hasString]

theorem PdAlike.nextValue (h : PdAlike s s') (d : Int) : s'.nextValue d = s.nextValue d := by
  rw [State.nextValue, State.nextValue, h.acc, h.sign]

/-- An integer stored at the end of both lists of integers. -/
theorem PdAlike.args_set (h : PdAlike s s') (hk : s.pdArgc < 12) (hk' : s'.pdArgc < 12) :
    ∀ k, k < s.pdArgc + 1 →
      (s'.args.set s'.pdArgc s'.pdAcc hk')[k]? = (s.args.set s.pdArgc s.pdAcc hk)[k]? := by
  intro k hlt
  rw [Vector.getElem?_set, Vector.getElem?_set, h.argc, h.acc]
  split
  · rfl
  · exact h.args k (by omega)

theorem PdAlike.raises {e : ErrorName} (h : PdAlike s s') (he : PdRaises c s e) :
    PdRaises c s' e := by
  cases he with
  | badRow hrow => exact .badRow (h.state ▸ hrow)
  | tooManyArguments hst hc hfull =>
    exact .tooManyArguments (h.state.trans hst) hc (h.nvalues.trans hfull)
  | tooManyStrings hst hc hroom hstr =>
    exact .tooManyStrings (h.state.trans hst) hc (h.nvalues ▸ hroom) (h.hasString.trans hstr)
  | valueOutOfRange hst hc hrange =>
    exact .valueOutOfRange (h.state.trans hst) hc (by rw [h.nextValue, hrange])
  | stringTooLong hst hc hlen => exact .stringTooLong (h.state.trans hst) hc (h.strlen.trans hlen)

theorem sameOutcome_raise (s s' : State) (e : ErrorName) :
    SameOutcome (s.raise .pd e) (s'.raise .pd e) :=
  ⟨rfl, rfl, rfl, fun hne => absurd rfl (hne e)⟩

/-- Within the same message a byte has the same outcome. -/
theorem PdStepped.alike (h : PdStepped c s t) (ha : PdAlike s s') :
    ∃ t', PdStepped c s' t' ∧ SameOutcome t t' := by
  have hst' : ∀ {st}, s.pdState = st → s'.pdState = st := fun hst => ha.state.trans hst
  cases h with
  | opcode hst hc =>
    exact ⟨_, .opcode (hst' hst) hc, rfl, rfl, rfl, fun _ =>
      ⟨rfl, rfl, rfl, nofun, rfl, rfl, nofun, rfl, rfl, rfl, rfl⟩⟩
  | bracket hst hc =>
    exact ⟨_, .bracket (hst' hst) hc, rfl, ha.error, ha.window, fun _ => { ha with state := rfl }⟩
  | bare hst hc =>
    exact ⟨_, .bare (hst' hst) hc, rfl, ha.error, rfl, fun _ =>
      { ha with state := rfl, window := rfl }⟩
  | minus hst hc hroom =>
    exact ⟨_, .minus (hst' hst) hc (ha.nvalues ▸ hroom), rfl, ha.error, ha.window, fun _ =>
      { ha with state := rfl, acc := rfl, sign := rfl }⟩
  | digit hst hc hroom =>
    exact ⟨_, .digit (hst' hst) hc (ha.nvalues ▸ hroom), rfl, ha.error, ha.window, fun _ =>
      { ha with state := rfl, acc := rfl, sign := rfl }⟩
  | openQuote hst hc hroom hstr =>
    exact ⟨_, .openQuote (hst' hst) hc (ha.nvalues ▸ hroom) (ha.hasString.trans hstr), rfl, ha.error,
      ha.window, fun _ => { ha with state := rfl, hasString := rfl, strlen := rfl, str := nofun }⟩
  | digitAfterMinus hst hc =>
    refine ⟨_, .digitAfterMinus (hst' hst) hc, rfl, ha.error, ha.window, fun _ =>
      { ha with state := rfl, acc := ?_ }⟩
    simp [ha.nextValue]
  | nextDigit hst hc hrange =>
    refine ⟨_, .nextDigit (hst' hst) hc (by rw [ha.nextValue, hrange]), rfl, ha.error, ha.window,
      fun _ => { ha with acc := ?_ }⟩
    simp [ha.nextValue]
  | integerComma hst hc hk =>
    have hk' : s'.pdArgc < 12 := ha.argc ▸ hk
    exact ⟨_, .integerComma (hst' hst) hc hk', rfl, ha.error, ha.window, fun _ =>
      { ha with state := rfl, argc := congrArg (· + 1) ha.argc, args := ha.args_set hk hk' }⟩
  | integerBracket hst hc hk =>
    have hk' : s'.pdArgc < 12 := ha.argc ▸ hk
    exact ⟨_, .integerBracket (hst' hst) hc hk', rfl, ha.error, ha.window, fun _ =>
      { ha with state := rfl, argc := congrArg (· + 1) ha.argc, args := ha.args_set hk hk' }⟩
  | closeQuote hst hc =>
    exact ⟨_, .closeQuote (hst' hst) hc, rfl, ha.error, ha.window, fun _ => { ha with state := rfl }⟩
  | char hst hc hlen =>
    refine ⟨_, .char (hst' hst) hc (ha.strlen ▸ hlen), rfl, ha.error, ha.window, fun _ =>
      { ha with strlen := congrArg (· + 1) ha.strlen, str := fun j hj => ?_ }⟩
    change j < s.pdStrlen + 1 at hj
    change (s'.str.write s'.pdStrlen c).read j = (s.str.write s.pdStrlen c).read j
    rw [ha.strlen, Memory.read_write, Memory.read_write]
    split
    · rfl
    · exact ha.str j (by omega)
  | stringComma hst hc =>
    exact ⟨_, .stringComma (hst' hst) hc, rfl, ha.error, ha.window, fun _ => { ha with state := rfl }⟩
  | stringBracket hst hc =>
    exact ⟨_, .stringBracket (hst' hst) hc, rfl, ha.error, ha.window, fun _ =>
      { ha with state := rfl }⟩
  | terminator hst hc =>
    exact ⟨_, .terminator (hst' hst) hc, rfl, ha.error, rfl, fun _ =>
      { ha with state := rfl, window := rfl }⟩
  | raise he => exact ⟨_, .raise (ha.raises he), sameOutcome_raise s s' _⟩

/-- An opcode starts the same message in both states; any other byte raises the same error. -/
theorem PdStepped.alike_at_opcode (h : PdStepped c s t) (hst : s.pdState = .waitOpcode)
    (hst' : s'.pdState = .waitOpcode) : ∃ t', PdStepped c s' t' ∧ SameOutcome t t' := by
  cases h
  case opcode hc =>
    exact ⟨_, .opcode hst' hc, rfl, rfl, rfl, fun _ =>
      ⟨rfl, rfl, rfl, nofun, rfl, rfl, nofun, rfl, rfl, rfl, rfl⟩⟩
  case raise e he =>
    cases he
    case badRow hrow =>
      exact ⟨_, .raise (.badRow (by rw [hst', ← hst]; exact hrow)), sameOutcome_raise s s' e⟩
    all_goals simp_all
  all_goals simp_all

/-- The states wait for an opcode, or hold the same message so far. -/
def PdInStep (s s' : State) : Prop :=
  (s.pdState = .waitOpcode ∧ s'.pdState = .waitOpcode) ∨ PdAlike s s'

theorem PdStepped.sameOutcome (h : PdStepped c s t) (h' : PdStepped c s' t')
    (hs : PdInStep s s') : SameOutcome t t' := by
  have hex : ∃ u, PdStepped c s' u ∧ SameOutcome t u := by
    rcases hs with ⟨hst, hst'⟩ | ha
    · exact h.alike_at_opcode hst hst'
    · exact h.alike ha
  obtain ⟨u, hu, hsame⟩ := hex
  cases (pdStep_iff.mpr hu).symm.trans (pdStep_iff.mpr h')
  exact hsame

/-- Two runs of the loop over the same bytes, from states in step. -/
theorem decodeFrom_sameOutcome {n i : Nat} {s s' t t' : State}
    (hread : ∀ j, i ≤ j → j < i + (n + 1) → s'.payload.read j = s.payload.read j)
    (h : decodeFrom (n + 1) i s = .next t) (h' : decodeFrom (n + 1) i s' = .next t')
    (hs : PdInStep s s') : SameOutcome t t' := by
  induction n generalizing i s s' with
  | zero =>
    obtain ⟨c, u, hc, hu, hgo⟩ := decodeFrom_next h
    obtain ⟨c', u', hc', hu', hgo'⟩ := decodeFrom_next h'
    obtain rfl : c = c' := by simpa [hc, hc'] using (hread i (by omega) (by omega)).symm
    have hsame := (pdStep_iff.mp hu).sameOutcome (pdStep_iff.mp hu') hs
    have ht : t = u := hgo.elim (fun ⟨_, hend⟩ => by cases hend; rfl) And.right
    have ht' : t' = u' := hgo'.elim (fun ⟨_, hend⟩ => by cases hend; rfl) And.right
    rwa [ht, ht']
  | succ n ih =>
    obtain ⟨c, u, hc, hu, hgo⟩ := decodeFrom_next h
    obtain ⟨c', u', hc', hu', hgo'⟩ := decodeFrom_next h'
    obtain rfl : c = c' := by simpa [hc, hc'] using (hread i (by omega) (by omega)).symm
    have hsame := (pdStep_iff.mp hu).sameOutcome (pdStep_iff.mp hu') hs
    have hpayload : ∀ j, u.payload.read j = s.payload.read j :=
      (pdStep_iff.mp hu).onlyWrites .payload (by decide)
    have hpayload' : ∀ j, u'.payload.read j = s'.payload.read j :=
      (pdStep_iff.mp hu').onlyWrites .payload (by decide)
    rcases hgo with ⟨hquiet, hloop⟩ | ⟨hended, rfl⟩ <;>
      rcases hgo' with ⟨hquiet', hloop'⟩ | ⟨hended', rfl⟩
    · refine ih (fun j hlo hhi => ?_) hloop hloop' (.inr (hsame.message (by simp [hquiet])))
      rw [hpayload, hpayload', hread j (by omega) (by omega)]
    · exact absurd (hsame.response.trans hquiet) hended'
    · exact absurd (hsame.response.symm.trans hquiet') hended
    · exact hsame

end Step

/-- Settles O42: both runs wait for an opcode first, and read the same bytes. -/
theorem blkDecodeDependsOnThePayloadAlone : Obligations.BlkDecodeDependsOnThePayloadAlone := by
  intro s s' t t' p hinv hinv' hopen hopen' hp hp' hexec hexec'
  have hlen : s'.fxLen = s.fxLen := hp'.1.trans hp.1.symm
  obtain ⟨-, hloop⟩ := exec_blkDecode_next hexec
  obtain ⟨-, hloop'⟩ := exec_blkDecode_next hexec'
  rw [hlen] at hloop'
  have hread : ∀ j, 0 ≤ j → j < 0 + (s.fxLen + 1) →
      (s'.pdGoto .waitOpcode).payload.read j = (s.pdGoto .waitOpcode).payload.read j := by
    intro j _ hj
    have hlt : j < (p ++ [(0x00 : Byte)]).length := by simpa [← hp.1] using hj
    have hs := hinv.read_terminated hopen hp j hlt
    have hs' := hinv'.read_terminated hopen' hp' j hlt
    rw [Nat.zero_add] at hs hs'
    exact hs'.trans hs.symm
  obtain ⟨hresp, herr, hwindow, hmessage⟩ :=
    decodeFrom_sameOutcome hread hloop hloop' (.inl ⟨rfl, rfl⟩)
  refine ⟨hresp.symm, herr.symm, hwindow.symm, fun hdone => ?_⟩
  have ha := hmessage (by simp [hdone])
  exact ⟨ha.opcode.symm, ha.argc.symm, fun k hk => (ha.args k hk).symm, ha.hasString.symm,
    ha.strlen.symm, fun j hj => (ha.str j hj).symm⟩

end Sys2Proof.Machine
end

section
/-! The reads of the outputs, what opens and closes the two windows, and what stops the block
(10_state.md section 6, 20_memory.md section 6, 60_exceptions.md section 5). -/

namespace Sys2Proof.Machine

/-! ## The reads -/

section Reads

variable {s : State}

theorem readOutput_frameOutput {bytes : List Byte} (hopen : s.frameOpen = true)
    (hspan : s.payload.readSpan 0 (s.fxLen + 1) = .ok bytes) :
    readOutput .frameOutput s =
      .next (s.respond (.frame bytes s.fxLen s.fxHasId s.fxId s.fxError)) := by
  simp [readOutput, deliverSpan, hopen, hspan]

theorem readOutput_messageOutput {bytes : List Byte} (hopen : s.msgOpen = true)
    (hargc : s.pdArgc ≤ 12) (hspan : s.str.readSpan 0 s.pdStrlen = .ok bytes) :
    readOutput .messageOutput s =
      .next (s.respond (.message s.pdOpcode (s.args.toList.take s.pdArgc) s.pdArgc s.pdHasString
        bytes s.pdStrlen s.pdError)) := by
  simp [readOutput, deliverSpan, hopen, hspan, Config.maxArgs, hargc]

/-- In the frame window the content and its terminator are there to be read. -/
theorem FxInv.readSpan_payload {p : List Byte} (hinv : FxInv s) (hopen : s.frameOpen = true)
    (hp : s.HoldsPayload p) : s.payload.readSpan 0 (s.fxLen + 1) = .ok (p ++ [0x00]) := by
  have hlen : s.fxLen + 1 = (p ++ [(0x00 : Byte)]).length := by simp [hp.1]
  rw [hlen]
  exact Memory.readSpan_eq_ok (hinv.read_terminated hopen hp)

theorem PdInv.argc_le (hinv : PdInv s) : s.pdArgc ≤ 12 := by
  have := hinv.nvalues_le
  unfold State.nvalues at this
  omega

theorem onlyWrites_read (s : State) (rest : List Request) (r : Response) :
    OnlyWrites [.response, .pending] s ({ s with pending := rest }.respond r) :=
  ((onlyWrites_pending s rest).trans (onlyWrites_respond _ r)).mono (by decide)

end Reads

/-- Settles O43. -/
theorem useOutsideAWindowIsRefused : Obligations.UseOutsideAWindowIsRefused := by
  intro s rest
  refine ⟨fun hclosed => ?_, fun hclosed hp => ?_, fun hclosed hp => ?_⟩
  · exact if_neg (Bool.eq_false_iff.mp hclosed)
  · rw [step_of_read hp]
    exact if_neg (Bool.eq_false_iff.mp hclosed)
  · rw [step_of_read hp]
    exact if_neg (Bool.eq_false_iff.mp hclosed)

/-- Settles O44: in the window the span is written and the error register is `None`. -/
theorem frameOutputIsDelivered : Obligations.FrameOutputIsDelivered := by
  intro s rest
  refine ⟨fun p hinv hopen hp hpending => ?_, fun hpending => ?_⟩
  · have hread := readOutput_frameOutput (s := { s with pending := rest }) hopen
      (hinv.readSpan_payload hopen hp)
    refine ⟨_, (step_of_read hpending).trans hread, ?_, rfl, onlyWrites_read s rest _⟩
    rw [State.respond_response, hinv.no_error (.inr hopen), hp.1]
  · exact ⟨_, step_of_read hpending, rfl, rfl, onlyWrites_read s rest _⟩

/-- Settles O45: in the window the string is written, the integers are within ARGS, and the error
register is `None`. -/
theorem messageOutputIsDelivered : Obligations.MessageOutputIsDelivered := by
  intro s rest
  refine ⟨fun hinv hopen hpending => ?_, fun hpending => ?_⟩
  · obtain ⟨cs, hcs, -⟩ := hinv.string
    obtain ⟨hlen, hread⟩ := Memory.readSpan_ok_iff.mp hcs
    have hstep := (step_of_read hpending).trans
      (readOutput_messageOutput (s := { s with pending := rest }) hopen hinv.argc_le hcs)
    refine ⟨_, hstep, ⟨s.args.toList.take s.pdArgc, cs, ?_, ?_, fun k hk => ?_, hlen, fun j hj => ?_⟩, rfl,
      onlyWrites_read s rest _⟩
    · rw [State.respond_response, hinv.no_error (.inr hopen)]
    · simpa using hinv.argc_le
    · simp [List.getElem?_take_of_lt hk]
    · rw [← hread j hj, Nat.zero_add]
  · exact ⟨_, step_of_read hpending, rfl, rfl, onlyWrites_read s rest _⟩

/-! ## The windows -/

section Windows

variable {s t : State} {c : Byte}

/-- What a call of `fx_step` does to the frame window. -/
theorem FxStepped.window (h : FxStepped c s t) :
    t.frameOpen = s.frameOpen ∨ (t.frameOpen = true ∧ t.response = .event .frameComplete) ∨
      (t.frameOpen = false ∧ c = hashMark) := by
  cases h
  case start hc => exact .inr (.inr ⟨rfl, hc⟩)
  case complete => exact .inr (.inl ⟨rfl, rfl⟩)
  all_goals exact .inl rfl

/-- What a call of `pd_step` does to the message window. -/
theorem PdStepped.window (h : PdStepped c s t) :
    t.msgOpen = s.msgOpen ∨ (t.msgOpen = true ∧ t.response = .event .messageComplete) ∨
      (t.msgOpen = false ∧
        ((∃ e, t.pdError = some e ∧ t.response = .event (.error e)) ∨
          t.pdState = .waitBracketOrEnd)) := by
  cases h
  case bare | terminator => exact .inr (.inl ⟨rfl, rfl⟩)
  case opcode => exact .inr (.inr ⟨rfl, .inr rfl⟩)
  case raise => exact .inr (.inr ⟨rfl, .inl ⟨_, rfl, rfl⟩⟩)
  all_goals exact .inl rfl

theorem exists_rest_of_head? {r : Request} (h : s.pending.head? = some r) :
    ∃ rest, s.pending = r :: rest :=
  List.head?_eq_some_iff.mp h

/-- A step whose request is `fx_step` is a call of `fx_step` in the state without it. -/
theorem step_fxStep_next (h : step s = .next t)
    (hhead : s.pending.head? = some (.call (.fxStep c))) :
    ∃ rest, FxStepped c { s with pending := rest } t := by
  obtain ⟨rest, hpending⟩ := exists_rest_of_head? hhead
  rw [step_of_call hpending rfl] at h
  exact ⟨rest, .of_exec h⟩

theorem step_pdStep_next (h : step s = .next t)
    (hhead : s.pending.head? = some (.call (.pdStep c))) :
    ∃ rest, PdStepped c { s with pending := rest } t := by
  obtain ⟨rest, hpending⟩ := exists_rest_of_head? hhead
  rw [step_of_call hpending rfl] at h
  exact ⟨rest, .of_exec h⟩

/-- What a step does to the frame window. -/
theorem step_frameWindow (h : step s = .next t) :
    t.frameOpen = s.frameOpen ∨ (t.frameOpen = true ∧ t.response = .event .frameComplete) ∨
      (t.frameOpen = false ∧ (s.pending.head? = some (.call (.fxStep 0x23)) ∨
        s.pending.head? = some (.call .blkReset))) := by
  by_cases hreset : s.pending.head? = some (.call .blkReset)
  · obtain ⟨rest, hpending⟩ := exists_rest_of_head? hreset
    rw [step_of_call hpending rfl] at h
    cases h
    exact .inr (.inr ⟨rfl, .inr hreset⟩)
  by_cases hfx : ∃ c, s.pending.head? = some (.call (.fxStep c))
  · obtain ⟨c, hhead⟩ := hfx
    obtain ⟨rest, hstep⟩ := step_fxStep_next h hhead
    rcases hstep.window with hsame | hopened | ⟨hclosed, rfl⟩
    · exact .inl hsame
    · exact .inr (.inl hopened)
    · exact .inr (.inr ⟨hclosed, .inl hhead⟩)
  · exact .inl (onlyWrites_step h .frameOpen
      (fxPart_not_written (by decide) (by decide) (not_exists.mp hfx) hreset))

/-- What a step does to the message window; BLK.DECODE, with FX in good order, ends with an event. -/
theorem step_msgWindow (hinv : FxInv s) (h : step s = .next t) :
    t.msgOpen = s.msgOpen ∨ (t.msgOpen = true ∧ t.response = .event .messageComplete) ∨
      (t.msgOpen = false ∧
        ((∃ e, t.pdError = some e ∧ t.response = .event (.error e)) ∨
          t.pdState = .waitBracketOrEnd ∨ s.pending.head? = some (.call .blkReset))) := by
  by_cases hreset : s.pending.head? = some (.call .blkReset)
  · obtain ⟨rest, hpending⟩ := exists_rest_of_head? hreset
    rw [step_of_call hpending rfl] at h
    cases h
    exact .inr (.inr ⟨rfl, .inr (.inr hreset)⟩)
  by_cases hpd : ∃ c, s.pending.head? = some (.call (.pdStep c))
  · obtain ⟨c, hhead⟩ := hpd
    obtain ⟨rest, hstep⟩ := step_pdStep_next h hhead
    rcases hstep.window with hsame | hopened | ⟨hclosed, hwhy⟩
    · exact .inl hsame
    · exact .inr (.inl hopened)
    · exact .inr (.inr ⟨hclosed, hwhy.imp_right .inl⟩)
  by_cases hdecode : s.pending.head? = some (.call .blkDecode)
  · obtain ⟨rest, hpending⟩ := exists_rest_of_head? hdecode
    rw [step_of_call hpending rfl] at h
    obtain ⟨hopen, -⟩ := exec_blkDecode_next h
    obtain ⟨p, hp, -⟩ := hinv.content
    have hinv' : FxInv { s with pending := rest } := { hinv with }
    obtain ⟨k, e, u, -, hended, -, hexec⟩ := exec_blkDecode_feed hinv' hopen hp
    cases h.symm.trans hexec
    obtain ⟨hresp, ⟨rfl, hopened⟩ | ⟨x, rfl, herr, -, hclosed, -⟩⟩ := hended
    · exact .inr (.inl ⟨hopened, hresp⟩)
    · exact .inr (.inr ⟨hclosed, .inl ⟨x, herr, hresp⟩⟩)
  · exact .inl (onlyWrites_step h .msgOpen
      (pdPart_not_written (by decide) (by decide) (not_exists.mp hpd) hreset hdecode))

end Windows

/-- Settles O53: a window stays as it is, opens on completion, or closes for a named reason. -/
theorem windowsOpenOnCompletion : Obligations.WindowsOpenOnCompletion := by
  intro s t hinv h
  rw [← and_assoc]
  constructor
  · rcases step_frameWindow h with hsame | ⟨hopened, hresp⟩ | ⟨hclosed, hwhy⟩
    · simp_all
    · exact ⟨fun _ _ => hresp, by simp [hopened]⟩
    · exact ⟨by simp [hclosed], fun _ _ => hwhy⟩
  · rcases step_msgWindow hinv h with hsame | ⟨hopened, hresp⟩ | ⟨hclosed, hwhy⟩
    · simp_all
    · exact ⟨fun _ _ => hresp, by simp [hopened]⟩
    · exact ⟨by simp [hclosed], fun _ _ => hwhy⟩

/-! ## What stops the block -/

section Stops

variable {s : State}

/-- A proper request of a block in good order is answered. -/
theorem step_of_not_misused (hinv : BlockInv s) (hproper : s.misused = false) :
    ∃ t, step s = .next t := by
  obtain ⟨hfx, hpd⟩ := hinv
  rcases hpending : s.pending with _ | ⟨c | r, rest⟩
  · exact ⟨s, by simp [step, State.fetch, hpending]⟩
  · cases c with
    | fxStep c =>
      obtain ⟨t, ht⟩ := exists_fxStepped (s := { s with pending := rest }) c hfx.len_le
      exact ⟨t, (step_of_call hpending rfl).trans ht.exec⟩
    | pdStep c =>
      obtain ⟨t, ht⟩ := exists_pdStepped (s := { s with pending := rest }) c hpd.pdRoom
      exact ⟨t, (step_of_call hpending rfl).trans ht.exec⟩
    | crcStart acc seed | crcUpdate acc b | crcFinalize acc =>
      have hhost : acc = .host := by cases acc <;> simp_all [State.misused]
      rw [step_of_call hpending (onHostAccumulator_ok.mpr ⟨hhost, rfl⟩)]
      exact ⟨_, rfl⟩
    | crcUpdaten acc bytes length =>
      obtain ⟨hhost, rfl⟩ : acc = .host ∧ length = bytes.length := by
        cases acc <;> simp_all [State.misused]
      rw [step_of_call hpending
        (withOwnLength_ok.mpr ⟨rfl, onHostAccumulator_ok.mpr ⟨hhost, rfl⟩⟩)]
      exact ⟨_, exec_crcUpdaten _ _ _⟩
    | crcCompute bytes length =>
      obtain rfl : length = bytes.length := by simp_all [State.misused]
      rw [step_of_call hpending (withOwnLength_ok.mpr ⟨rfl, rfl⟩)]
      exact ⟨_, exec_crcCompute _ _⟩
    | blkReset => exact ⟨_, step_of_call hpending rfl⟩
    | blkDecode =>
      have hopen : s.frameOpen = true := by simpa [State.misused, hpending] using hproper
      obtain ⟨p, hp, -⟩ := hfx.content
      have hfx' : FxInv { s with pending := rest } := { hfx with }
      obtain ⟨_, _, t, -, -, -, hexec⟩ := exec_blkDecode_feed hfx' hopen hp
      exact ⟨t, (step_of_call hpending rfl).trans hexec⟩
  · rw [step_of_read hpending]
    cases r with
    | frameOutput =>
      have hopen : s.frameOpen = true := by simpa [State.misused, hpending] using hproper
      obtain ⟨p, hp, -⟩ := hfx.content
      exact ⟨_, readOutput_frameOutput (s := { s with pending := rest }) hopen
        (hfx.readSpan_payload hopen hp)⟩
    | messageOutput =>
      have hopen : s.msgOpen = true := by simpa [State.misused, hpending] using hproper
      obtain ⟨cs, hcs, -⟩ := hpd.string
      exact ⟨_, readOutput_messageOutput (s := { s with pending := rest }) hopen hpd.argc_le hcs⟩
    | fxError => exact ⟨_, rfl⟩
    | pdError => exact ⟨_, rfl⟩

/-- A call that selects no operation is refused. -/
theorem step_of_not_ok {c : Transaction} {rest : List Request}
    (hpending : s.pending = .call c :: rest) (hno : ∀ i, decode s.fxState s.pdState c ≠ .ok i) :
    ∃ r, step s = .refused r := by
  cases hdecode : decode s.fxState s.pdState c with
  | ok i => exact absurd hdecode (hno i)
  | error why => exact ⟨.undecodable why, by simp [step, State.fetch, hpending, hdecode]⟩

/-- A misuse is refused, in every state. -/
theorem step_of_misused (hmisuse : s.misused = true) : ∃ r, step s = .refused r := by
  rcases hpending : s.pending with _ | ⟨c | r, rest⟩
  · simp [State.misused, hpending] at hmisuse
  · cases c with
    | fxStep | pdStep | blkReset => simp [State.misused, hpending] at hmisuse
    | crcStart | crcUpdate | crcFinalize =>
      refine step_of_not_ok hpending fun i hok => ?_
      obtain ⟨rfl, -⟩ := onHostAccumulator_ok.mp hok
      simp [State.misused, hpending] at hmisuse
    | crcUpdaten =>
      refine step_of_not_ok hpending fun i hok => ?_
      obtain ⟨rfl, hhost⟩ := withOwnLength_ok.mp hok
      obtain ⟨rfl, -⟩ := onHostAccumulator_ok.mp hhost
      simp [State.misused, hpending] at hmisuse
    | crcCompute =>
      refine step_of_not_ok hpending fun i hok => ?_
      obtain ⟨rfl, -⟩ := withOwnLength_ok.mp hok
      simp [State.misused, hpending] at hmisuse
    | blkDecode =>
      have hclosed : s.frameOpen = false := by simpa [State.misused, hpending] using hmisuse
      rw [step_of_call hpending rfl]
      exact ⟨_, (useOutsideAWindowIsRefused { s with pending := rest } rest).1 hclosed⟩
  · obtain ⟨-, hframe, hmsg⟩ := useOutsideAWindowIsRefused s rest
    cases r with
    | frameOutput => exact ⟨_, hframe (by simpa [State.misused, hpending] using hmisuse) hpending⟩
    | messageOutput => exact ⟨_, hmsg (by simpa [State.misused, hpending] using hmisuse) hpending⟩
    | fxError | pdError => simp [State.misused, hpending] at hmisuse

end Stops

/-- Settles O49. -/
theorem onlyMisuseStopsTheBlock : Obligations.OnlyMisuseStopsTheBlock := by
  intro s hinv
  cases hmisused : s.misused with
  | false =>
    obtain ⟨t, ht⟩ := step_of_not_misused hinv hmisused
    simp [ht]
  | true =>
    obtain ⟨r, hr⟩ := step_of_misused hmisused
    simp [hr]

end Sys2Proof.Machine
end

section
/-! Runs of calls without an event, and the one that ends them: what it means for bytes to complete at
their last byte. -/

namespace Sys2Proof.Machine

/-- The calls for the bytes, one after the other, each return the event `None`. -/
inductive QuietRun (call : Byte → Transaction) : State → List Byte → State → Prop
  | nil (s : State) : QuietRun call s [] s
  | cons {s t u : State} {c : Byte} {bs : List Byte} (hstep : step (s.present (call c)) = .next t)
      (hquiet : t.response = .event .quiet) (hrest : QuietRun call t bs u) :
      QuietRun call s (c :: bs) u

section Runs

variable {call : Byte → Transaction} {s t u : State} {bs cs : List Byte} {c : Byte}

theorem QuietRun.append (hst : QuietRun call s bs t) (htu : QuietRun call t cs u) :
    QuietRun call s (bs ++ cs) u := by
  induction hst with
  | nil => exact htu
  | cons hstep hquiet _ ih => exact .cons hstep hquiet (ih htu)

/-- Bytes give an event at the last byte and not before exactly when they are a run without an event
and one more call. -/
theorem feed_firstEventLast_iff {bytes : List Byte} {n : Nat} {e : Event} :
    feed call bytes s = some (firstEventLast n e, u) ↔
      ∃ bs c t, bytes = bs ++ [c] ∧ bs.length = n ∧ QuietRun call s bs t ∧
        step (t.present (call c)) = .next u ∧ u.response = .event e := by
  constructor
  · intro h
    induction n generalizing bytes s with
    | zero =>
      cases bytes with
      | nil => cases h
      | cons c cs =>
        obtain ⟨t, rest, hstep, hrest, heq⟩ := feed_cons_some h
        obtain ⟨hresp, rfl⟩ : Response.event e = t.response ∧ [] = rest := List.cons.inj heq
        cases cs with
        | nil => cases hrest; exact ⟨[], c, s, rfl, rfl, .nil s, hstep, hresp.symm⟩
        | cons d ds =>
          obtain ⟨_, _, -, -, habsurd⟩ := feed_cons_some hrest
          cases habsurd
    | succ n ih =>
      cases bytes with
      | nil => cases h
      | cons c cs =>
        obtain ⟨t, rest, hstep, hrest, heq⟩ := feed_cons_some h
        obtain ⟨hresp, rfl⟩ : Response.event .quiet = t.response ∧ firstEventLast n e = rest :=
          List.cons.inj heq
        obtain ⟨bs, d, v, rfl, rfl, hrun, hlast, hend⟩ := ih hrest
        exact ⟨c :: bs, d, v, rfl, rfl, .cons hstep hresp.symm hrun, hlast, hend⟩
  · rintro ⟨bs, c, t, rfl, rfl, hrun, hlast, hend⟩
    induction hrun with
    | nil s =>
      have hone : firstEventLast 0 e = [u.response] := by rw [hend]; rfl
      exact (feed_cons hlast rfl).trans (by rw [List.length_nil, hone])
    | cons hstep hquiet _ ih =>
      rw [List.length_cons, firstEventLast_succ, ← hquiet]
      exact feed_cons hstep (ih hlast)

/-- Feeding keeps what each call keeps. -/
theorem feed_keeps {P : State → Prop} {rs : List Response}
    (hstep : ∀ c s t, step (s.present (call c)) = .next t → P s → P t)
    (h : feed call bs s = some (rs, u)) (hs : P s) : P u := by
  induction bs generalizing s rs with
  | nil => cases h; exact hs
  | cons c bs ih =>
    obtain ⟨t, rest, hcall, hrest, -⟩ := feed_cons_some h
    exact ih hrest (hstep c s t hcall hs)

theorem onlyWrites_feed_fxStep {rs : List Response}
    (h : feed .fxStep bs s = some (rs, u)) : OnlyWrites fxParts s u :=
  feed_keeps (P := OnlyWrites fxParts s)
    (fun _ _ _ hcall hs => hs.trans_same (step_fxStep_iff.mp hcall).onlyWrites) h (.refl _ s)

theorem onlyWrites_feed_pdStep {rs : List Response}
    (h : feed .pdStep bs s = some (rs, u)) : OnlyWrites pdParts s u :=
  feed_keeps (P := OnlyWrites pdParts s)
    (fun _ _ _ hcall hs => hs.trans_same (step_pdStep_iff.mp hcall).onlyWrites) h (.refl _ s)

end Runs

end Sys2Proof.Machine
end

section
/-! The language of the Frame Extractor (41_frame_extractor.md section 7): every frame completes and is
delivered, nothing else completes, and a corrupted frame does not. -/

namespace Sys2Proof.Machine

/-! ## Every frame is delivered -/

/-- A value is written as two hexadecimal digits that read back as the value. -/
theorem hex2_digits (v : Byte) :
    ∃ hi lo, hex2 v = [hi, lo] ∧ isHex hi = true ∧ isHex lo = true ∧
      hexVal hi * 16 + hexVal lo = v := by
  have hhigh : isHex (hexDigit (v >>> 4)) = true := by revert v; decide
  have hlow : isHex (hexDigit (v &&& 0x0F)) = true := by revert v; decide
  have hsum : hexVal (hexDigit (v >>> 4)) * 16 + hexVal (hexDigit (v &&& 0x0F)) = v := by
    revert v
    decide
  exact ⟨_, _, rfl, hhigh, hlow, hsum⟩

/-- A frame's bytes before the final LF. -/
def frameABody (p : List Byte) (id : Byte) : List Byte :=
  coveredFormA p id ++ hex2 (crcCompute (coveredFormA p id)) ++ [cr]

/-- A dummy frame's bytes before the final LF. -/
def frameBBody (p : List Byte) : List Byte := hashMark :: p ++ [colon, lx, lx, lx, lx, cr]

theorem frameA_eq (p : List Byte) (id : Byte) : frameA p id = frameABody p id ++ [lf] := by
  simp [frameA, frameABody]

theorem frameB_eq (p : List Byte) : frameB p = frameBBody p ++ [lf] := by
  simp [frameB, frameBBody]

theorem length_frameABody (p : List Byte) (id : Byte) :
    (frameABody p id).length = p.length + 7 := by
  simp [frameABody, coveredFormA, hex2]

theorem length_frameBBody (p : List Byte) : (frameBBody p).length = p.length + 7 := by
  simp [frameBBody]

section Delivered

variable {s t u : State} {p q : List Byte} {id : Byte}

/-- From a frame's payload onwards, the payload bytes are taken one by one. -/
theorem payload_run (hst : s.fxState = .awaitPayloadOrMetadata) (ho : FxOrder s q)
    (hp : IsPayload (q ++ p)) :
    ∃ t, QuietRun .fxStep s p t ∧ t.fxState = .awaitPayloadOrMetadata ∧ FxOrder t (q ++ p) := by
  induction p generalizing s q with
  | nil => exact ⟨s, .nil s, hst, by simpa using ho⟩
  | cons c p ih =>
    obtain ⟨hlen, hbytes⟩ := hp
    have hbelow : s.fxLen < 58 := by rw [ho.holds.1]; simp at hlen; omega
    have hstep : FxStepped c s _ := .append hst (hbytes c (by simp)) hbelow
    obtain ⟨r, hr, hsofar⟩ := hstep.order ho
    obtain rfl : r = q ++ [c] := by
      have := hsofar (by simp [hst]) (by simp)
      simpa [State.frameSoFar, hst] using this
    obtain ⟨t, hrun, ht, hot⟩ := ih (q := q ++ [c]) (by simpa using hst) hr
      ⟨by simpa using hlen, by simpa using hbytes⟩
    exact ⟨t, .cons (step_fxStep_iff.mpr hstep) rfl hrun, ht, by simpa using hot⟩

/-- The start marker and the payload, from any state in `AwaitStart`. -/
theorem start_payload_run (hst : s.fxState = .awaitStart) (hp : IsPayload p) :
    ∃ t, QuietRun .fxStep s (hashMark :: p) t ∧ t.fxState = .awaitPayloadOrMetadata ∧
      FxOrder t p := by
  obtain ⟨t, hrun, ht, ho⟩ := payload_run (p := p) rfl (fxOrder_start s) hp
  exact ⟨t, .cons (step_fxStep_iff.mpr (.start hst rfl)) rfl hrun, ht, ho⟩

/-- A row that keeps the payload keeps FX in order with it. -/
theorem FxStepped.order_same {c : Byte} (h : FxStepped c s t) (ho : FxOrder s p)
    (hp : t.HoldsPayload p) : FxOrder t p := by
  obtain ⟨q, hq, -⟩ := h.order ho
  obtain rfl : p = q := by
    refine List.ext_getElem? fun i => ?_
    rcases Nat.lt_or_ge i p.length with hi | hi
    · rw [← hp.2 i hi, hq.holds.2 i (by rw [← hq.holds.1, hp.1]; exact hi)]
    · have hlen : q.length ≤ i := by rw [← hq.holds.1, hp.1]; exact hi
      rw [List.getElem?_eq_none hi, List.getElem?_eq_none hlen]
  exact hq

/-- The byte is taken without an event, and FX goes on in `next` with payload `p`, in order. -/
structure FxTakes (c : Byte) (s t : State) (next : FxState) (p : List Byte) : Prop where
  stepped : FxStepped c s t
  quiet : t.response = .event .quiet
  state : t.fxState = next
  order : FxOrder t p

theorem FxTakes.run {c : Byte} {next : FxState} {bs : List Byte} (h : FxTakes c s t next p)
    (hrest : QuietRun .fxStep t bs u) : QuietRun .fxStep s (c :: bs) u :=
  .cons (step_fxStep_iff.mpr h.stepped) h.quiet hrest

/-- The colon ends the payload. -/
theorem takes_colon (hst : s.fxState = .awaitPayloadOrMetadata) (ho : FxOrder s p) :
    ∃ t, FxTakes colon s t .awaitIdChar1 p :=
  have h : FxStepped colon s _ := .metadata hst rfl
  ⟨_, h, rfl, rfl, h.order_same ho ho.holds⟩

theorem takes_firstId {i : Byte} (hst : s.fxState = .awaitIdChar1) (ho : FxOrder s p)
    (hi : isHex i = true) :
    ∃ t, FxTakes i s t .awaitIdChar2 p ∧ t.fxHasId = true ∧ t.fxId = hexVal i :=
  have h : FxStepped i s _ := .firstId hst hi
  ⟨_, ⟨h, rfl, rfl, h.order_same ho ho.holds⟩, rfl, rfl⟩

theorem takes_secondId {j : Byte} (hst : s.fxState = .awaitIdChar2) (ho : FxOrder s p)
    (hj : isHex j = true) :
    ∃ t, FxTakes j s t .awaitChecksum1 p ∧ t.fxHasId = s.fxHasId ∧
      t.fxId = s.fxId * 16 + hexVal j :=
  have h : FxStepped j s _ := .secondId hst hj
  ⟨_, ⟨h, rfl, rfl, h.order_same ho ho.holds⟩, rfl, rfl⟩

theorem takes_firstClaimed {k : Byte} (hst : s.fxState = .awaitChecksum1) (ho : FxOrder s p)
    (hk : isHex k = true) :
    ∃ t, FxTakes k s t .awaitChecksum2 p ∧ t.fxClaimed = hexVal k ∧ t.fxCrc = s.fxCrc ∧
      t.fxHasId = s.fxHasId ∧ t.fxId = s.fxId :=
  have h : FxStepped k s _ := .firstClaimed hst hk
  ⟨_, ⟨h, rfl, rfl, h.order_same ho ho.holds⟩, rfl, rfl, rfl, rfl⟩

/-- The second digit of the checksum, when the two are those of the computed one. -/
theorem takes_verified {l : Byte} (hst : s.fxState = .awaitChecksum2) (ho : FxOrder s p)
    (hl : isHex l = true) (hcrc : s.fxClaimed * 16 + hexVal l = s.fxCrc) :
    ∃ t, FxTakes l s t .awaitCR p ∧ t.fxHasId = s.fxHasId ∧ t.fxId = s.fxId :=
  have h : FxStepped l s _ := .verified hst hl hcrc
  ⟨_, ⟨h, rfl, rfl, h.order_same ho ho.holds⟩, rfl, rfl⟩

theorem takes_noId (hst : s.fxState = .awaitIdChar1) (ho : FxOrder s p) :
    ∃ t, FxTakes lx s t .awaitDummy2 p :=
  have h : FxStepped lx s _ := .noId hst rfl
  ⟨_, h, rfl, rfl, h.order_same ho ho.holds⟩

/-- Each of the three letters after the first `'x'` only moves on. -/
theorem takes_dummy {next : FxState} (h : FxStepped lx s ((s.fxGoto next).emit .quiet))
    (ho : FxOrder s p) : ∃ t, FxTakes lx s t next p ∧ t.fxHasId = s.fxHasId :=
  ⟨_, ⟨h, rfl, rfl, h.order_same ho ho.holds⟩, rfl⟩

/-- A frame, but for its final LF, is taken without an event, and the LF then completes and delivers
it. -/
def TakesFrame (s : State) (body p : List Byte) (id : Option Byte) : Prop :=
  ∃ t u, QuietRun .fxStep s body t ∧ step (t.present (.fxStep lf)) = .next u ∧
    u.response = .event .frameComplete ∧ u.DeliversFrame p id

/-- From `AwaitCR` the frame's end delivers what was read. -/
theorem takesFrame_end {id : Option Byte} (hst : s.fxState = .awaitCR) (ho : FxOrder s p)
    (hhas : s.fxHasId = id.isSome) (hid : s.fxId = id.getD 0) : TakesFrame s [cr] p id := by
  have hcr : FxStepped cr s _ := .terminate hst rfl (Nat.lt_succ_of_le ho.len_le)
  have hlf : FxStepped lf (({ s with payload := s.payload.write s.fxLen Config.terminator }.fxGoto
    .awaitLF).emit .quiet) _ := .complete rfl rfl
  exact ⟨_, _, .cons (step_fxStep_iff.mpr hcr) rfl (.nil _), step_fxStep_iff.mpr hlf, rfl, rfl, rfl,
    ho.no_error (.inl (by simp [hst])), holdsPayload_of_write_at_len ho.holds rfl rfl,
    Memory.read_write_same _ _ _, hhas, hid⟩

theorem TakesFrame.of_run {body body' : List Byte} {id : Option Byte}
    (hrun : QuietRun .fxStep s body t) (h : TakesFrame t body' p id) :
    TakesFrame s (body ++ body') p id := by
  obtain ⟨v, u, hrest, hlast⟩ := h
  exact ⟨v, u, hrun.append hrest, hlast⟩

theorem takesFrame_formA (hst : s.fxState = .awaitStart) (hp : IsPayload p) (id : Byte) :
    TakesFrame s (frameABody p id) p (some id) := by
  obtain ⟨i, j, hid, hi, hj, hidval⟩ := hex2_digits id
  obtain ⟨k, l, hcrc, hk, hl, hcrcval⟩ := hex2_digits (crcCompute (coveredFormA p id))
  obtain ⟨s₁, hrun, hst₁, ho₁⟩ := start_payload_run hst hp
  obtain ⟨s₂, h₂⟩ := takes_colon hst₁ ho₁
  obtain ⟨s₃, h₃, hhas₃, hid₃⟩ := takes_firstId h₂.state h₂.order hi
  obtain ⟨s₄, h₄, hhas₄, hid₄⟩ := takes_secondId h₃.state h₃.order hj
  rw [hid₃, hidval] at hid₄
  have hcovered : s₄.fxCrc = crcCompute (coveredFormA p id) :=
    h₄.order.crc _ (by simp [State.covered, h₄.state, hid₄, coveredFormA])
  obtain ⟨s₅, h₅, hclaimed₅, hcrc₅, hhas₅, hid₅⟩ := takes_firstClaimed h₄.state h₄.order hk
  obtain ⟨s₆, h₆, hhas₆, hid₆⟩ := takes_verified h₅.state h₅.order hl
    (by rw [hclaimed₅, hcrcval, hcrc₅, hcovered])
  have hhas : s₆.fxHasId = true := by rw [hhas₆, hhas₅, hhas₄, hhas₃]
  have hid' : s₆.fxId = id := by rw [hid₆, hid₅, hid₄]
  have hbody : frameABody p id = hashMark :: p ++ ([colon, i, j, k, l] ++ [cr]) := by
    rw [frameABody, hcrc]
    simp [coveredFormA, hid]
  rw [hbody]
  exact .of_run hrun <| .of_run (h₂.run <| h₃.run <| h₄.run <| h₅.run <| h₆.run <| .nil s₆) <|
    takesFrame_end h₆.state h₆.order hhas hid'

theorem takesFrame_formB (hst : s.fxState = .awaitStart) (hp : IsPayload p) :
    TakesFrame s (frameBBody p) p none := by
  obtain ⟨s₁, hrun, hst₁, ho₁⟩ := start_payload_run hst hp
  obtain ⟨s₂, h₂⟩ := takes_colon hst₁ ho₁
  obtain ⟨s₃, h₃⟩ := takes_noId h₂.state h₂.order
  obtain ⟨s₄, h₄, hhas₄⟩ := takes_dummy (.dummy2 h₃.state rfl) h₃.order
  obtain ⟨s₅, h₅, hhas₅⟩ := takes_dummy (.dummy3 h₄.state rfl) h₄.order
  obtain ⟨s₆, h₆, hhas₆⟩ := takes_dummy (.dummy4 h₅.state rfl) h₅.order
  have hhas₃ : s₃.fxHasId = false := by simpa [State.fxStage, h₃.state] using h₃.order.stage
  have hhas : s₆.fxHasId = false := by rw [hhas₆, hhas₅, hhas₄, hhas₃]
  have hbody : frameBBody p = hashMark :: p ++ ([colon, lx, lx, lx, lx] ++ [cr]) := by
    simp [frameBBody]
  rw [hbody]
  exact .of_run hrun <| .of_run (h₂.run <| h₃.run <| h₄.run <| h₅.run <| h₆.run <| .nil s₆) <|
    takesFrame_end h₆.state h₆.order hhas (h₆.order.no_id_zero hhas)

/-- A frame that is taken completes at its last byte and not before. -/
theorem TakesFrame.feed {body : List Byte} {id : Option Byte} (h : TakesFrame s body p id) :
    ∃ u, Machine.feed .fxStep (body ++ [lf]) s =
        some (firstEventLast body.length .frameComplete, u) ∧ u.DeliversFrame p id := by
  obtain ⟨t, u, hrun, hstep, hresp, hdelivers⟩ := h
  exact ⟨u, feed_firstEventLast_iff.mpr ⟨body, lf, t, rfl, rfl, hrun, hstep, hresp⟩, hdelivers⟩

/-- Bytes other than the start marker pass without an event. -/
theorem noise_run {noise : List Byte} (hst : s.fxState = .awaitStart)
    (hnoise : ∀ c ∈ noise, c ≠ 0x23) :
    ∃ t, QuietRun .fxStep s noise t ∧ t.fxState = .awaitStart := by
  induction noise generalizing s with
  | nil => exact ⟨s, .nil s, hst⟩
  | cons c noise ih =>
    have hstep : FxStepped c s _ := .skip hst (hnoise c (by simp))
    obtain ⟨t, hrun, ht⟩ := ih (s := s.emit .quiet) hst fun d hd => hnoise d (by simp [hd])
    exact ⟨t, .cons (step_fxStep_iff.mpr hstep) rfl hrun, ht⟩

end Delivered

/-- Settles O54. -/
theorem everyFormAFrameIsDelivered : Obligations.EveryFormAFrameIsDelivered := by
  intro s p id hst hp
  obtain ⟨u, hfeed, hdelivers⟩ := (takesFrame_formA hst hp id).feed
  rw [← frameA_eq, length_frameABody] at hfeed
  exact ⟨u, hfeed, hdelivers, onlyWrites_feed_fxStep hfeed⟩

/-- Settles O55. -/
theorem everyDummyFrameIsDelivered : Obligations.EveryDummyFrameIsDelivered := by
  intro s p hst hp
  obtain ⟨u, hfeed, hdelivers⟩ := (takesFrame_formB hst hp).feed
  rw [← frameB_eq, length_frameBBody] at hfeed
  exact ⟨u, hfeed, hdelivers, onlyWrites_feed_fxStep hfeed⟩

/-- Settles O58: the noise leaves FX in `AwaitStart`. -/
theorem frameAfterNoiseIsDelivered : Obligations.FrameAfterNoiseIsDelivered := by
  intro s noise p hst hnoise hp
  obtain ⟨t, hrun, ht⟩ := noise_run hst hnoise
  refine ⟨fun id => ?_, ?_⟩
  · obtain ⟨u, hfeed, hdelivers⟩ := (TakesFrame.of_run hrun (takesFrame_formA ht hp id)).feed
    rw [List.append_assoc, ← frameA_eq, List.length_append, length_frameABody] at hfeed
    exact ⟨u, hfeed, hdelivers⟩
  · obtain ⟨u, hfeed, hdelivers⟩ := (TakesFrame.of_run hrun (takesFrame_formB ht hp)).feed
    rw [List.append_assoc, ← frameB_eq, List.length_append, length_frameBBody] at hfeed
    exact ⟨u, hfeed, hdelivers⟩

/-! ## Nothing else completes -/

section OnlyFrames

variable {s t u : State} {p : List Byte}

/-- Without an event a call within a frame stays within it. -/
theorem FxStepped.inside_of_quiet {c : Byte} (h : FxStepped c s t) (hin : s.fxState ≠ .awaitStart)
    (hquiet : t.response = .event .quiet) : t.fxState ≠ .awaitStart := by
  cases h <;> simp_all

/-- A run within a frame without an event reads the frame's next bytes. -/
theorem frameSoFar_run {bs : List Byte} (hrun : QuietRun .fxStep s bs t) (ho : FxOrder s p)
    (hin : s.fxState ≠ .awaitStart) :
    ∃ q, FxOrder t q ∧ t.fxState ≠ .awaitStart ∧ t.frameSoFar q = s.frameSoFar p ++ bs := by
  induction hrun generalizing p with
  | nil s => exact ⟨p, ho, hin, by simp⟩
  | cons hstep hquiet _ ih =>
    rw [step_fxStep_iff] at hstep
    obtain ⟨q, hq, hsofar⟩ := hstep.order ho
    obtain ⟨r, hr, hin', hsofar'⟩ := ih hq (hstep.inside_of_quiet hin hquiet)
    exact ⟨r, hr, hin', by rw [hsofar', hsofar hin (by simp [hquiet])]; simp⟩

/-- A completed frame in good order is one of the two frames of its payload. -/
theorem FxOrder.frameSoFar_complete (ho : FxOrder s p) (hst : s.fxState = .awaitStart)
    (hopen : s.frameOpen = true) :
    s.frameSoFar p = if s.fxHasId then frameA p s.fxId else frameB p := by
  have hcrc := ho.crc
  have hstage := ho.stage
  simp only [State.covered, State.fxStage, hst, hopen, if_true] at hcrc hstage
  have hverified := (hstage trivial).2
  simp only [State.frameSoFar, frameHead, hst]
  cases hhas : s.fxHasId with
  | false => simp [frameB]
  | true =>
    have hcovered : s.fxCrc = crcCompute (coveredFormA p s.fxId) :=
      hcrc _ (by simp [hhas, coveredFormA])
    simp [frameA, hverified hhas, hcovered]

/-- Bytes from a start marker that complete at the last byte and not before are one of the two frames
of a payload. -/
theorem frame_of_feed {bytes : List Byte} {n : Nat} (hst : s.fxState = .awaitStart)
    (hhead : bytes.head? = some 0x23)
    (hfeed : feed .fxStep bytes s = some (firstEventLast n .frameComplete, u)) :
    ∃ p, IsPayload p ∧ ((∃ id, bytes = frameA p id) ∨ bytes = frameB p) := by
  obtain ⟨bs, c, t, rfl, -, hrun, hlast, hdone⟩ := feed_firstEventLast_iff.mp hfeed
  rw [step_fxStep_iff] at hlast
  cases hrun with
  | nil => cases hlast <;> simp_all
  | @cons _ s₁ _ d ds hstep hquiet hrest =>
    obtain rfl : d = hashMark := by simpa [hashMark] using hhead
    have hstart : s₁.fxState = .awaitPayloadOrMetadata ∧ FxOrder s₁ [] := by
      rw [step_fxStep_iff] at hstep
      cases hstep
      case start => exact ⟨rfl, fxOrder_start s⟩
      all_goals simp_all
    obtain ⟨hst₁, ho₁⟩ := hstart
    obtain ⟨q, hq, hin, hsofar⟩ := frameSoFar_run hrest ho₁ (by simp [hst₁])
    obtain ⟨r, hr, hsofar'⟩ := hlast.order hq
    have hended : u.fxState = .awaitStart ∧ u.frameOpen = true := by
      rcases hlast.event with hq | ⟨-, hst, hopen⟩ | ⟨e, hraised, -⟩
      · simp [hdone] at hq
      · exact ⟨hst, hopen⟩
      · simp [FxRaised, hdone] at hraised
    have hbytes : u.frameSoFar r = hashMark :: ds ++ [c] := by
      rw [hsofar' hin (by simp [hdone]), hsofar]
      simp [State.frameSoFar, hst₁]
    rw [hr.frameSoFar_complete hended.1 hended.2] at hbytes
    refine ⟨r, hr.payload, ?_⟩
    split at hbytes
    · exact .inl ⟨_, hbytes.symm⟩
    · exact .inr hbytes.symm

end OnlyFrames

/-- Settles O56. -/
theorem onlyFramesComplete : Obligations.OnlyFramesComplete :=
  fun _ _ _ _ hst hhead hfeed => frame_of_feed hst hhead hfeed

/-! ## One corrupted byte -/

theorem hex2_injective {v w : Byte} (h : hex2 v = hex2 w) : v = w := by
  obtain ⟨i, j, hv, -, -, hvval⟩ := hex2_digits v
  obtain ⟨k, l, hw, -, -, hwval⟩ := hex2_digits w
  rw [hv, hw] at h
  cases h
  exact hvval.symm.trans hwval

/-- Another byte at one place changes the checksum. -/
theorem crcCompute_set_ne {bytes : List Byte} {k : Nat} {c : Byte} (hk : k < bytes.length)
    (hne : bytes[k]? ≠ some c) : crcCompute bytes ≠ crcCompute (bytes.set k c) := by
  have hbytes : bytes = bytes.take k ++ bytes[k] :: bytes.drop (k + 1) := by
    rw [← List.drop_eq_getElem_cons hk, List.take_append_drop]
  have hset : bytes.set k c = bytes.take k ++ c :: bytes.drop (k + 1) := by
    rw [List.set_eq_take_append_cons_drop, if_pos hk]
  have hne' : bytes[k] ≠ c := by simpa [List.getElem?_eq_getElem hk] using hne
  have hchange := oneByteChangeChangesTheChecksum (bytes.take k) (bytes.drop (k + 1)) _ _ hne'
  rwa [← hbytes, ← hset] at hchange

/-- Settles O57: such bytes would be a frame of the same length. With the checksum digits of the
first frame it is no dummy frame, and by the checksum of the changed bytes no frame with an id. -/
theorem oneCorruptedCoveredByteIsDetected : Obligations.OneCorruptedCoveredByteIsDetected := by
  intro s t p id k c hst hp hk hkle hne hfeed
  have hlen : (coveredFormA p id).length = p.length + 4 := by simp [coveredFormA, hex2]
  have hlt : k < (coveredFormA p id).length := by omega
  have hchanged : (coveredFormA p id)[k]? ≠ some c := by
    rwa [frameA, List.append_assoc, List.getElem?_append_left hlt] at hne
  have hset : (frameA p id).set k c =
      (coveredFormA p id).set k c ++ (hex2 (crcCompute (coveredFormA p id)) ++ [cr, lf]) := by
    rw [frameA, List.append_assoc, List.set_append_left _ _ hlt]
  have hhead : ((frameA p id).set k c).head? = some 0x23 := by
    obtain ⟨m, rfl⟩ := Nat.exists_eq_add_of_le' hk
    simp [frameA, coveredFormA, hashMark]
  obtain ⟨q, -, ⟨id', hframe⟩ | hframe⟩ := frame_of_feed hst hhead hfeed
  · have hlenq : q.length = p.length := by
      have := congrArg List.length hframe
      rw [List.length_set, frameA_eq, frameA_eq] at this
      simpa [length_frameABody] using this.symm
    rw [hset, frameA, List.append_assoc] at hframe
    obtain ⟨hcovered, htail⟩ := List.append_inj hframe (by simp [coveredFormA, hex2, hlenq])
    have hcrc : crcCompute (coveredFormA p id) = crcCompute ((coveredFormA p id).set k c) := by
      rw [hcovered]
      exact hex2_injective (List.append_cancel_right htail)
    exact crcCompute_set_ne hlt hchanged hcrc
  · have hlenq : q.length = p.length := by
      have := congrArg List.length hframe
      rw [List.length_set, frameA_eq, frameB_eq] at this
      simpa [length_frameABody, length_frameBBody] using this.symm
    have hdummy : frameB q = hashMark :: q ++ [colon, lx, lx] ++ [lx, lx, cr, lf] := by
      simp [frameB]
    rw [hset, hdummy] at hframe
    obtain ⟨-, htail⟩ := List.append_inj hframe (by simp [coveredFormA, hex2, hlenq])
    obtain ⟨i, j, hdigits, hi, -, -⟩ := hex2_digits (crcCompute (coveredFormA p id))
    rw [hdigits] at htail
    exact ne_lx_of_isHex hi (List.cons.inj htail).1

end Sys2Proof.Machine
end

section
/-! The values of a message and what PD holds of them (42_payload_decoder.md section 9): the facts about
the grammar of 30_encoding.md sections 2 and 3, and what each way a row acts does to the values held. -/

namespace Sys2Proof.Machine

/-! ## The grammar -/

@[simp] theorem msgInts_append (vs ws : List MsgValue) :
    msgInts (vs ++ ws) = msgInts vs ++ msgInts ws := by
  induction vs with
  | nil => rfl
  | cons v vs ih => cases v <;> simp [msgInts, ih]

@[simp] theorem msgStrings_append (vs ws : List MsgValue) :
    msgStrings (vs ++ ws) = msgStrings vs ++ msgStrings ws := by
  induction vs with
  | nil => rfl
  | cons v vs ih => cases v <;> simp [msgStrings, ih]

/-- Every value is an integer or a string. -/
theorem length_eq_ints_add_strings (vs : List MsgValue) :
    vs.length = (msgInts vs).length + (msgStrings vs).length := by
  induction vs with
  | nil => rfl
  | cons v vs ih => cases v <;> simp [msgInts, msgStrings, ih] <;> omega

theorem spelled_concat (neg : Bool) (ds : List Byte) (c : Byte) :
    spelled neg (ds ++ [c]) = 10 * spelled neg ds + (if neg then -1 else 1) * decVal c := by
  simp [spelled]

/-- Digits whose every initial part spells a value in the range of `int16`: a valid integer, or the part
of one that was read. -/
def DigitsInRange (neg : Bool) (ds : List Byte) : Prop :=
  (∀ c ∈ ds, isDigit c = true) ∧ ∀ k ≤ ds.length, inInt16 (spelled neg (ds.take k)) = true

theorem valid_int_iff {neg : Bool} {ds : List Byte} :
    (MsgValue.int neg ds).Valid ↔ ds ≠ [] ∧ DigitsInRange neg ds := Iff.rfl

theorem digitsInRange_nil (neg : Bool) : DigitsInRange neg [] :=
  ⟨by simp, fun k _ => by simp [spelled, inInt16]⟩

theorem digitsInRange_concat_iff {neg : Bool} {ds : List Byte} {c : Byte} :
    DigitsInRange neg (ds ++ [c]) ↔
      DigitsInRange neg ds ∧ isDigit c = true ∧ inInt16 (spelled neg (ds ++ [c])) = true := by
  constructor
  · rintro ⟨hdigits, hrange⟩
    refine ⟨⟨fun d hd => hdigits d (by simp [hd]), fun k hk => ?_⟩, hdigits c (by simp), ?_⟩
    · simpa [List.take_append_of_le_length hk] using hrange k (by simp; omega)
    · have hwhole := hrange (ds ++ [c]).length le_rfl
      rwa [List.take_length] at hwhole
  · rintro ⟨⟨hdigits, hrange⟩, hc, hlast⟩
    refine ⟨by simpa [or_imp, forall_and] using ⟨hdigits, hc⟩, fun k hk => ?_⟩
    rcases Nat.lt_or_ge ds.length k with hlt | hle
    · rwa [List.take_of_length_le (by simpa using hlt)]
    · rw [List.take_append_of_le_length hle]
      exact hrange k hle

theorem DigitsInRange.of_append {neg : Bool} {ds es : List Byte}
    (h : DigitsInRange neg (ds ++ es)) : DigitsInRange neg ds :=
  ⟨fun c hc => h.1 c (by simp [hc]), fun k hk => by
    simpa [List.take_append_of_le_length hk] using h.2 k (by simp; omega)⟩

/-- The first values of a message are a message. -/
theorem IsMessage.of_append {op : Byte} {vs ws : List MsgValue} (h : IsMessage op (vs ++ ws)) :
    IsMessage op vs := by
  obtain ⟨hop, hlen, hstr, hvalid⟩ := h
  simp only [List.length_append, msgStrings_append] at hlen hstr
  exact ⟨hop, by omega, by omega, fun v hv => hvalid v (by simp [hv])⟩

theorem isMessage_concat {op : Byte} {vs : List MsgValue} {v : MsgValue} (h : IsMessage op vs)
    (hlen : vs.length ≤ 11) (hstr : (msgStrings (vs ++ [v])).length ≤ 1) (hv : v.Valid) :
    IsMessage op (vs ++ [v]) :=
  ⟨h.1, by simp; omega, hstr, by simpa [or_imp, forall_and] using ⟨h.2.2.2, hv⟩⟩

/-- A message's last value is an integer or its only string. -/
theorem msgStrings_eq_nil_of_concat {op : Byte} {vs : List MsgValue} {cs : List Byte}
    (h : IsMessage op (vs ++ [.str cs])) : msgStrings vs = [] := by
  obtain ⟨-, -, hstr, -⟩ := h
  simpa [msgStrings] using hstr

/-! ## What PD holds -/

/-- PD holds the values `vs` of the message of opcode `op`; the last one may be a string still open. -/
structure PdHolds (s : State) (op : Byte) (vs : List MsgValue) : Prop where
  isMessage : IsMessage op vs
  opcode : s.pdOpcode = op
  error : s.pdError = none
  argc : s.pdArgc = (msgInts vs).length
  args : (s.args.toList.take s.pdArgc).map BitVec.toInt = msgInts vs
  hasString : s.pdHasString = !(msgStrings vs).isEmpty
  str : s.str.readSpan 0 s.pdStrlen = .ok ((msgStrings vs).head?.getD [])

/-- PD holds an integer in progress: sign and digits so far. -/
structure InInteger (s : State) (neg : Bool) (ds : List Byte) : Prop where
  acc : s.pdAcc.toInt = spelled neg ds
  sign : s.pdSign = if neg then .minus else .plus
  range : DigitsInRange neg ds

section Holds

variable {s t : State} {op c : Byte} {vs : List MsgValue}

/-- The count of values that the limit tests is that of the values held. -/
theorem PdHolds.nvalues (h : PdHolds s op vs) : s.nvalues = vs.length := by
  obtain ⟨-, -, hstr, -⟩ := h.isMessage
  rw [State.nvalues, h.argc, h.hasString, length_eq_ints_add_strings]
  cases hs : msgStrings vs with
  | nil => simp
  | cons x xs =>
    rw [hs] at hstr
    simp at hstr
    simp [hstr]

theorem PdHolds.length_le_of_room (h : PdHolds s op vs) (hroom : s.nvalues ≠ 12) :
    vs.length ≤ 11 := by
  have hlen := h.isMessage.2.1
  rw [h.nvalues] at hroom
  omega

/-- Moves and digits leave the values held. -/
theorem PdHolds.congr (h : PdHolds s op vs)
    (hw : OnlyWrites [.pdState, .pdAcc, .pdSign, .response] s t) : PdHolds t op vs where
  isMessage := h.isMessage
  opcode := Eq.trans (hw .pdOpcode (by decide)) h.opcode
  error := Eq.trans (hw .pdError (by decide)) h.error
  argc := Eq.trans (hw .pdArgc (by decide)) h.argc
  args := by
    rw [show t.args = s.args from hw .args (by decide),
      show t.pdArgc = s.pdArgc from hw .pdArgc (by decide), h.args]
  hasString := Eq.trans (hw .pdHasString (by decide)) h.hasString
  str := by
    rw [show t.pdStrlen = s.pdStrlen from hw .pdStrlen (by decide)]
    exact Memory.readSpan_congr (hw .str (by decide)) h.str

theorem PdHolds.goto (h : PdHolds s op vs) (st : PdState) :
    PdHolds ((s.pdGoto st).emit .quiet) op vs :=
  h.congr (((onlyWrites_pdGoto s st).trans (onlyWrites_emit _ _)).mono (by decide))

theorem PdHolds.setValue_goto (h : PdHolds s op vs) (sign : Sign) (v : Int16Bits) (st : PdState) :
    PdHolds (((s.setValue sign v).pdGoto st).emit .quiet) op vs :=
  h.congr (((onlyWrites_setValue s sign v).pdGoto_emit _ _).mono (by decide))

theorem PdHolds.setValue (h : PdHolds s op vs) (sign : Sign) (v : Int16Bits) :
    PdHolds ((s.setValue sign v).emit .quiet) op vs :=
  h.congr (((onlyWrites_setValue s sign v).trans (onlyWrites_emit _ _)).mono (by decide))

/-- An accepted opcode starts a message without values. -/
theorem pdHolds_opcode (s : State) (hc : isOpch c = true) :
    PdHolds (((s.clearMessage c).pdGoto .waitBracketOrEnd).emit .quiet) c [] where
  isMessage := ⟨hc, by simp, by simp [msgStrings], by simp⟩
  opcode := rfl
  error := rfl
  argc := rfl
  args := rfl
  hasString := rfl
  str := rfl

/-- The entries in use after one more is stored at their end. -/
theorem take_succ_set {α : Type} {l : List α} {k : Nat} (a : α) (hk : k < l.length) :
    (l.set k a).take (k + 1) = l.take k ++ [a] := by
  rw [List.take_succ_eq_append_getElem (by simpa using hk), List.take_set_of_le le_rfl,
    List.getElem_set_self]

/-- The end of an integer adds it to the values. -/
theorem PdHolds.storeInteger (h : PdHolds s op vs) {neg : Bool} {ds : List Byte}
    (hint : InInteger s neg ds) (hds : ds ≠ []) (hlen : vs.length ≤ 11) (hk : s.pdArgc < 12)
    (st : PdState) :
    PdHolds
      (({ s with args := s.args.set s.pdArgc s.pdAcc hk, pdArgc := s.pdArgc + 1 }.pdGoto st).emit
        .quiet) op (vs ++ [.int neg ds]) where
  isMessage := by
    refine isMessage_concat h.isMessage hlen ?_ ⟨hds, hint.range⟩
    simpa [msgStrings] using h.isMessage.2.2.1
  opcode := h.opcode
  error := h.error
  argc := by simp [msgInts, h.argc]
  args := by
    have hlast := take_succ_set (l := s.args.toList) s.pdAcc (by simpa using hk)
    change ((s.args.set s.pdArgc s.pdAcc hk).toList.take (s.pdArgc + 1)).map BitVec.toInt = _
    rw [Vector.toList_set, hlast, List.map_append, h.args, msgInts_append]
    simp [msgInts, hint.acc]
  hasString := by simpa [msgStrings] using h.hasString
  str := by simpa [msgStrings] using h.str

/-- The opening quote adds an empty string to the values. -/
theorem PdHolds.openString (h : PdHolds s op vs) (hno : s.pdHasString = false)
    (hlen : vs.length ≤ 11) :
    PdHolds ((s.openString.pdGoto .waitString).emit .quiet) op (vs ++ [.str []]) := by
  have hnil : msgStrings vs = [] := by simpa [hno] using h.hasString
  exact {
    isMessage := isMessage_concat h.isMessage hlen (by simp [hnil, msgStrings]) ⟨by simp, by simp⟩
    opcode := h.opcode
    error := h.error
    argc := by simpa [msgInts] using h.argc
    args := by simpa [msgInts] using h.args
    hasString := by simp [msgStrings]
    str := by simp [hnil, msgStrings, Memory.readSpan] }

theorem PdHolds.strlen {cs : List Byte} (h : PdHolds s op (vs ++ [.str cs])) :
    s.str.readSpan 0 s.pdStrlen = .ok cs ∧ s.pdStrlen = cs.length := by
  have hstr := h.str
  rw [msgStrings_append, msgStrings_eq_nil_of_concat h.isMessage] at hstr
  exact ⟨hstr, (Memory.readSpan_ok_iff.mp hstr).1.symm⟩

/-- A character lengthens the open string. -/
theorem PdHolds.char {cs : List Byte} (h : PdHolds s op (vs ++ [.str cs]))
    (hc : isStrch c = true) (hlen : s.pdStrlen < 32) :
    PdHolds ({ s with str := s.str.write s.pdStrlen c, pdStrlen := s.pdStrlen + 1 }.emit .quiet) op
      (vs ++ [.str (cs ++ [c])]) := by
  have hnil := msgStrings_eq_nil_of_concat h.isMessage
  obtain ⟨hspan, hcs⟩ := h.strlen
  obtain ⟨hop, hlength, -, hvalid⟩ := h.isMessage
  have hchars : ∀ d ∈ cs, isStrch d = true := (hvalid (.str cs) (by simp)).2
  exact {
    isMessage := by
      refine ⟨hop, by simpa using hlength, by simp [hnil, msgStrings], fun v hv => ?_⟩
      rcases List.mem_append.mp hv with hv | hv
      · exact hvalid v (by simp [hv])
      · obtain rfl : v = .str (cs ++ [c]) := by simpa using hv
        exact ⟨by simp; omega, by simpa [or_imp, forall_and] using ⟨hchars, hc⟩⟩
    opcode := h.opcode
    error := h.error
    argc := by simpa [msgInts] using h.argc
    args := by simpa [msgInts] using h.args
    hasString := by simpa [hnil, msgStrings] using h.hasString
    str := by simpa [hnil, msgStrings] using Memory.readSpan_write_end c hspan }

/-- The end of the message delivers the values held. -/
theorem PdHolds.delivers (h : PdHolds s op vs) :
    (((s.pdGoto .waitOpcode).openMessage).emit .messageComplete).DeliversMessage op vs :=
  ⟨rfl, rfl, h.error, h.opcode, h.argc, h.args, h.hasString, h.str⟩

/-- Before the first digit after a minus sign. -/
theorem inInteger_minus (s : State) (st : PdState) :
    InInteger (((s.setValue .minus 0).pdGoto st).emit .quiet) true [] :=
  ⟨rfl, rfl, digitsInRange_nil true⟩

/-- The exact value after one more digit is what the digits then spell. -/
theorem InInteger.nextValue {neg : Bool} {ds : List Byte} (h : InInteger s neg ds) :
    s.nextValue (decVal c) = spelled neg (ds ++ [c]) := by
  rw [State.nextValue, spelled_concat, h.acc, h.sign]
  cases neg <;> rfl

/-- A digit in range lengthens the integer. -/
theorem InInteger.digit {neg : Bool} {ds : List Byte} (h : InInteger s neg ds)
    (hc : isDigit c = true) (hrange : inInt16 (spelled neg (ds ++ [c])) = true)
    (hacc : t.pdAcc = toInt16 (s.nextValue (decVal c))) (hsign : t.pdSign = s.pdSign) :
    InInteger t neg (ds ++ [c]) where
  acc := by
    obtain ⟨hlo, hhi⟩ := inInt16_iff.mp hrange
    rw [hacc, h.nextValue, toInt_toInt16 hlo hhi]
  sign := hsign.trans h.sign
  range := digitsInRange_concat_iff.mpr ⟨h.range, hc, hrange⟩

/-- One digit alone is in range, with either sign. -/
theorem inInt16_spelled_singleton (neg : Bool) (hc : isDigit c = true) :
    inInt16 (spelled neg ([] ++ [c])) = true := by
  obtain ⟨-, hhi⟩ := isDigit_iff.mp hc
  rw [spelled_concat, decVal_of_isDigit hc, inInt16_iff]
  cases neg <;> simp [spelled] <;> omega

theorem inInteger_plus (s : State) (st : PdState) (hc : isDigit c = true) :
    InInteger (((s.setValue .plus (toInt16 (decVal c))).pdGoto st).emit .quiet) false [c] where
  acc := by
    obtain ⟨hlo, hhi⟩ := inInt16_iff.mp (inInt16_spelled_singleton false hc)
    have hval : spelled false [c] = decVal c := by simp [spelled]
    simp only [List.nil_append, hval] at hlo hhi
    simp [hval, toInt_toInt16 hlo hhi]
  sign := rfl
  range := digitsInRange_concat_iff.mpr
    ⟨digitsInRange_nil false, hc, inInt16_spelled_singleton false hc⟩

end Holds

end Sys2Proof.Machine
end

section
/-! The language of the Payload Decoder (42_payload_decoder.md section 9): every message completes and
is delivered, and nothing else completes. -/

namespace Sys2Proof.Machine

/-! ## The bytes of a message -/

/-- The bytes of a message before a value: opcode, bracket, and the values before it with their
commas. -/
def bytesBefore (op : Byte) (vs : List MsgValue) : List Byte :=
  op :: lbr :: vs.flatMap fun v => v.bytes ++ [comma]

theorem bytesBefore_concat (op : Byte) (vs : List MsgValue) (v : MsgValue) :
    bytesBefore op (vs ++ [v]) = bytesBefore op vs ++ (v.bytes ++ [comma]) := by
  simp [bytesBefore]

theorem commaSeparated_cons {vs : List MsgValue} (v : MsgValue) (hne : vs ≠ []) :
    commaSeparated (v :: vs) = v.bytes ++ comma :: commaSeparated vs := by
  cases vs with
  | nil => exact absurd rfl hne
  | cons w ws => rfl

theorem commaSeparated_concat (vs : List MsgValue) (v : MsgValue) :
    commaSeparated (vs ++ [v]) = (vs.flatMap fun w => w.bytes ++ [comma]) ++ v.bytes := by
  induction vs with
  | nil => rfl
  | cons w vs ih => simp [commaSeparated_cons w (List.concat_ne_nil v vs), ih]

theorem message_nil (op : Byte) : message op [] = [op] ++ [nul] := rfl

theorem message_concat (op : Byte) (vs : List MsgValue) (v : MsgValue) :
    message op (vs ++ [v]) = bytesBefore op vs ++ (v.bytes ++ [rbr]) ++ [nul] := by
  simp [message, bytesBefore, commaSeparated_concat]

/-! ## Every message is delivered -/

section Delivered

variable {s t u : State} {op c : Byte} {vs : List MsgValue}

theorem PdStepped.run {bs : List Byte} (h : PdStepped c s t)
    (hquiet : t.response = .event .quiet) (hrest : QuietRun .pdStep t bs u) :
    QuietRun .pdStep s (c :: bs) u :=
  .cons (step_pdStep_iff.mpr h) hquiet hrest

/-- A character that closes a value, and the state it leads to. -/
def Closes (c : Byte) (next : PdState) : Prop :=
  (c = comma ∧ next = .waitValue) ∨ (c = rbr ∧ next = .waitEnd)

/-- The first digit of an integer, with the minus sign before it when there is one. -/
theorem firstDigit_run {neg : Bool} (hst : s.pdState = .waitValue) (hs : PdHolds s op vs)
    (hlen : vs.length ≤ 11) (hc : isDigit c = true) :
    ∃ t, QuietRun .pdStep s ((if neg then [minus] else []) ++ [c]) t ∧
      t.pdState = .waitDigitsOrCommaOrBracket ∧ PdHolds t op vs ∧ InInteger t neg [c] := by
  have hroom : s.nvalues ≠ 12 := by rw [hs.nvalues]; omega
  cases neg with
  | false =>
    have hdigit : PdStepped c s _ := .digit hst hc hroom
    exact ⟨_, hdigit.run rfl (.nil _), rfl, hs.setValue_goto _ _ _, inInteger_plus s _ hc⟩
  | true =>
    obtain ⟨t, hminus, hquiet, hst', ht, hint⟩ : ∃ t, PdStepped minus s t ∧
        t.response = .event .quiet ∧ t.pdState = .waitDigit ∧ PdHolds t op vs ∧
        InInteger t true [] :=
      ⟨_, .minus hst rfl hroom, rfl, rfl, hs.setValue_goto _ _ _, inInteger_minus s _⟩
    have hdigit : PdStepped c t _ := .digitAfterMinus hst' hc
    exact ⟨_, hminus.run hquiet (hdigit.run rfl (.nil _)), rfl, ht.setValue_goto _ _ _,
      hint.digit hc (inInt16_spelled_singleton true hc) rfl rfl⟩

/-- The further digits of an integer. -/
theorem digits_run {neg : Bool} {ds es : List Byte} (hst : s.pdState = .waitDigitsOrCommaOrBracket)
    (hs : PdHolds s op vs) (hint : InInteger s neg ds) (hrange : DigitsInRange neg (ds ++ es)) :
    ∃ t, QuietRun .pdStep s es t ∧ t.pdState = .waitDigitsOrCommaOrBracket ∧ PdHolds t op vs ∧
      InInteger t neg (ds ++ es) := by
  induction es generalizing s ds with
  | nil => exact ⟨s, .nil s, hst, hs, by simpa using hint⟩
  | cons c es ih =>
    rw [List.append_cons] at hrange
    obtain ⟨-, hc, hin⟩ := digitsInRange_concat_iff.mp hrange.of_append
    obtain ⟨t, hstep, hquiet, hst', ht, hint'⟩ : ∃ t, PdStepped c s t ∧
        t.response = .event .quiet ∧ t.pdState = .waitDigitsOrCommaOrBracket ∧
        PdHolds t op vs ∧ InInteger t neg (ds ++ [c]) :=
      ⟨_, .nextDigit hst hc (by rw [hint.nextValue, hin]), rfl, hst, hs.setValue _ _,
        hint.digit hc hin rfl rfl⟩
    obtain ⟨u, hrun, hu⟩ := ih hst' ht hint' hrange
    exact ⟨u, hstep.run hquiet hrun, by rw [List.append_cons]; exact hu⟩

/-- The characters of a string. -/
theorem chars_run {es cs : List Byte} (hst : s.pdState = .waitString)
    (hs : PdHolds s op (vs ++ [.str es])) (hlen : (es ++ cs).length ≤ 32)
    (hcs : ∀ c ∈ cs, isStrch c = true) :
    ∃ t, QuietRun .pdStep s cs t ∧ t.pdState = .waitString ∧
      PdHolds t op (vs ++ [.str (es ++ cs)]) := by
  induction cs generalizing s es with
  | nil => exact ⟨s, .nil s, hst, by simpa using hs⟩
  | cons c cs ih =>
    rw [List.append_cons] at hlen
    have hroom : s.pdStrlen < 32 := by rw [hs.strlen.2]; simp at hlen; omega
    have hc : isStrch c = true := hcs c (by simp)
    obtain ⟨t, hstep, hquiet, hst', ht⟩ : ∃ t, PdStepped c s t ∧ t.response = .event .quiet ∧
        t.pdState = .waitString ∧ PdHolds t op (vs ++ [.str (es ++ [c])]) :=
      ⟨_, .char hst hc hroom, rfl, hst, hs.char hc hroom⟩
    obtain ⟨u, hrun, hu⟩ := ih hst' ht hlen fun d hd => hcs d (by simp [hd])
    exact ⟨u, hstep.run hquiet hrun, by rw [List.append_cons es]; exact hu⟩

/-- The character that closes an integer stores it. -/
theorem closeInteger_run {neg : Bool} {ds : List Byte} {next : PdState} (hclose : Closes c next)
    (hst : s.pdState = .waitDigitsOrCommaOrBracket) (hs : PdHolds s op vs)
    (hint : InInteger s neg ds) (hds : ds ≠ []) (hlen : vs.length ≤ 11) :
    ∃ t, QuietRun .pdStep s [c] t ∧ t.pdState = next ∧ PdHolds t op (vs ++ [.int neg ds]) := by
  have hk : s.pdArgc < 12 := by
    have := hs.nvalues
    unfold State.nvalues at this
    omega
  have hheld := hs.storeInteger hint hds hlen hk next
  rcases hclose with ⟨rfl, rfl⟩ | ⟨rfl, rfl⟩
  · have hstep : PdStepped comma s _ := .integerComma hst rfl hk
    exact ⟨_, hstep.run rfl (.nil _), rfl, hheld⟩
  · have hstep : PdStepped rbr s _ := .integerBracket hst rfl hk
    exact ⟨_, hstep.run rfl (.nil _), rfl, hheld⟩

/-- The closing quote of a string and the character that closes it as a value. -/
theorem closeString_run {next : PdState} (hclose : Closes c next) (hst : s.pdState = .waitString)
    (hs : PdHolds s op vs) :
    ∃ t, QuietRun .pdStep s [quote, c] t ∧ t.pdState = next ∧ PdHolds t op vs := by
  obtain ⟨t, hquote, hquiet, hst', ht⟩ : ∃ t, PdStepped quote s t ∧ t.response = .event .quiet ∧
      t.pdState = .waitCommaOrBracket ∧ PdHolds t op vs :=
    ⟨_, .closeQuote hst rfl, rfl, rfl, hs.goto _⟩
  have hheld := ht.goto next
  rcases hclose with ⟨rfl, rfl⟩ | ⟨rfl, rfl⟩
  · have hstep : PdStepped comma t _ := .stringComma hst' rfl
    exact ⟨_, hquote.run hquiet (hstep.run rfl (.nil _)), rfl, hheld⟩
  · have hstep : PdStepped rbr t _ := .stringBracket hst' rfl
    exact ⟨_, hquote.run hquiet (hstep.run rfl (.nil _)), rfl, hheld⟩

/-- A value and the character that closes it. -/
theorem value_run {v : MsgValue} {next : PdState} (hclose : Closes c next)
    (hst : s.pdState = .waitValue) (hs : PdHolds s op vs) (hmsg : IsMessage op (vs ++ [v])) :
    ∃ t, QuietRun .pdStep s (v.bytes ++ [c]) t ∧ t.pdState = next ∧ PdHolds t op (vs ++ [v]) := by
  have hlen : vs.length ≤ 11 := Nat.le_of_lt_succ (by simpa using hmsg.2.1)
  have hvalid : v.Valid := hmsg.2.2.2 v (by simp)
  cases v with
  | int neg ds =>
    obtain ⟨hds, hrange⟩ := valid_int_iff.mp hvalid
    obtain ⟨d, ds, rfl⟩ := List.exists_cons_of_ne_nil hds
    obtain ⟨s₁, hrun₁, hst₁, hs₁, hint₁⟩ :=
      firstDigit_run (neg := neg) hst hs hlen (hrange.1 d (by simp))
    obtain ⟨s₂, hrun₂, hst₂, hs₂, hint₂⟩ := digits_run (es := ds) hst₁ hs₁ hint₁ hrange
    obtain ⟨s₃, hrun₃, hst₃, hs₃⟩ := closeInteger_run hclose hst₂ hs₂ hint₂ hds hlen
    refine ⟨s₃, ?_, hst₃, hs₃⟩
    simpa [MsgValue.bytes] using hrun₁.append (hrun₂.append hrun₃)
  | str cs =>
    obtain ⟨hcslen, hcs⟩ := hvalid
    have hroom : s.nvalues ≠ 12 := by rw [hs.nvalues]; omega
    have hno : s.pdHasString = false := by
      simp [hs.hasString, msgStrings_eq_nil_of_concat hmsg]
    obtain ⟨s₁, hquote, hquiet, hst₁, hs₁⟩ : ∃ t, PdStepped quote s t ∧
        t.response = .event .quiet ∧ t.pdState = .waitString ∧ PdHolds t op (vs ++ [.str []]) :=
      ⟨_, .openQuote hst rfl hroom hno, rfl, rfl, hs.openString hno hlen⟩
    obtain ⟨s₂, hrun₂, hst₂, hs₂⟩ := chars_run (cs := cs) hst₁ hs₁ hcslen hcs
    obtain ⟨s₃, hrun₃, hst₃, hs₃⟩ := closeString_run hclose hst₂ hs₂
    refine ⟨s₃, ?_, hst₃, hs₃⟩
    simpa [MsgValue.bytes] using hquote.run hquiet (hrun₂.append hrun₃)

/-- The opcode. -/
theorem opcode_run (hst : s.pdState = .waitOpcode) (hop : isOpch op = true) :
    ∃ t, QuietRun .pdStep s [op] t ∧ t.pdState = .waitBracketOrEnd ∧ PdHolds t op [] := by
  have hstep : PdStepped op s _ := .opcode hst hop
  exact ⟨_, hstep.run rfl (.nil _), rfl, pdHolds_opcode s hop⟩

/-- Everything before a value. -/
theorem bytesBefore_run (hst : s.pdState = .waitOpcode) (hmsg : IsMessage op vs) :
    ∃ t, QuietRun .pdStep s (bytesBefore op vs) t ∧ t.pdState = .waitValue ∧ PdHolds t op vs := by
  induction vs using List.reverseRecOn with
  | nil =>
    obtain ⟨t, hrun, hst', ht⟩ := opcode_run hst hmsg.1
    have hstep : PdStepped lbr t _ := .bracket hst' rfl
    exact ⟨_, hrun.append (hstep.run rfl (.nil _)), rfl, ht.goto _⟩
  | append_singleton vs v ih =>
    obtain ⟨t, hrun, hst', ht⟩ := ih hmsg.of_append
    obtain ⟨u, hvalue, hu⟩ := value_run (.inl ⟨rfl, rfl⟩) hst' ht hmsg
    exact ⟨u, bytesBefore_concat op vs v ▸ hrun.append hvalue, hu⟩

/-- The terminator after a run to the end of a message completes and delivers it. -/
theorem feed_of_message_run {bs : List Byte} (hrun : QuietRun .pdStep s bs t)
    (hst : t.pdState = .waitBracketOrEnd ∨ t.pdState = .waitEnd) (ht : PdHolds t op vs) :
    ∃ n u, feed .pdStep (bs ++ [nul]) s = some (firstEventLast n .messageComplete, u) ∧
      n + 1 = (bs ++ [nul]).length ∧ u.DeliversMessage op vs ∧ OnlyWrites pdParts s u := by
  have hstep : PdStepped nul t (((t.pdGoto .waitOpcode).openMessage).emit .messageComplete) :=
    hst.elim (.bare · rfl) (.terminator · rfl)
  have hfeed := feed_firstEventLast_iff.mpr
    ⟨bs, nul, t, rfl, rfl, hrun, step_pdStep_iff.mpr hstep, rfl⟩
  exact ⟨_, _, hfeed, by simp, ht.delivers, onlyWrites_feed_pdStep hfeed⟩

end Delivered

/-- Settles O59: by the last value, if there is one. -/
theorem everyMessageIsDelivered : Obligations.EveryMessageIsDelivered := by
  intro s op vs hst hmsg
  rcases List.eq_nil_or_concat' vs with rfl | ⟨ws, v, rfl⟩
  · obtain ⟨t, hrun, hst', ht⟩ := opcode_run hst hmsg.1
    rw [message_nil]
    exact feed_of_message_run hrun (.inl hst') ht
  · obtain ⟨t, hrun, hst', ht⟩ := bytesBefore_run hst hmsg.of_append
    obtain ⟨u, hvalue, hst'', hu⟩ := value_run (.inr ⟨rfl, rfl⟩) hst' ht hmsg
    rw [message_concat]
    exact feed_of_message_run (hrun.append hvalue) (.inr hst'') hu

/-! ## Nothing else completes -/

section OnlyMessages

variable {s t u : State} {op c : Byte} {vs : List MsgValue} {bs : List Byte}

/-- The bytes read since the opcode are those of the message that PD holds so far. -/
def State.MessageSoFar (s : State) (op : Byte) (vs : List MsgValue) (bs : List Byte) : Prop :=
  match s.pdState with
  | .waitOpcode => False
  | .waitBracketOrEnd => vs = [] ∧ bs = [op]
  | .waitValue => bs = bytesBefore op vs
  | .waitDigit => vs.length ≤ 11 ∧ bs = bytesBefore op vs ++ [minus] ∧ InInteger s true []
  | .waitDigitsOrCommaOrBracket => vs.length ≤ 11 ∧ ∃ neg ds, ds ≠ [] ∧ InInteger s neg ds ∧
      bs = bytesBefore op vs ++ (MsgValue.int neg ds).bytes
  | .waitString => ∃ ws cs, vs = ws ++ [.str cs] ∧ bs = bytesBefore op ws ++ quote :: cs
  | .waitCommaOrBracket => ∃ ws v, vs = ws ++ [v] ∧ bs = bytesBefore op ws ++ v.bytes
  | .waitEnd => ∃ ws v, vs = ws ++ [v] ∧ bs = bytesBefore op ws ++ (v.bytes ++ [rbr])

/-- A call without an event reads the next byte of a message. -/
theorem PdStepped.messageSoFar (h : PdStepped c s t) (hquiet : t.response = .event .quiet)
    (hs : PdHolds s op vs) (hsofar : s.MessageSoFar op vs bs) :
    ∃ ws, PdHolds t op ws ∧ t.MessageSoFar op ws (bs ++ [c]) := by
  unfold State.MessageSoFar at hsofar
  cases h with
  | opcode hst hc => simp [hst] at hsofar
  | bare hst hc | terminator hst hc => cases hquiet
  | raise he => cases hquiet
  | bracket hst hc =>
    simp only [hst] at hsofar
    obtain ⟨rfl, rfl⟩ := hsofar
    exact ⟨[], hs.goto _, by simp [State.MessageSoFar, bytesBefore, hc]⟩
  | minus hst hc hroom =>
    simp only [hst] at hsofar
    exact ⟨vs, hs.setValue_goto _ _ _, hs.length_le_of_room hroom, by rw [hsofar, hc],
      inInteger_minus s _⟩
  | digit hst hc hroom =>
    simp only [hst] at hsofar
    exact ⟨vs, hs.setValue_goto _ _ _, hs.length_le_of_room hroom, false, [c], by simp,
      inInteger_plus s _ hc, by simp [hsofar, MsgValue.bytes]⟩
  | openQuote hst hc hroom hstr =>
    simp only [hst] at hsofar
    exact ⟨vs ++ [.str []], hs.openString hstr (hs.length_le_of_room hroom), vs, [], rfl,
      by rw [hsofar, hc]⟩
  | digitAfterMinus hst hc =>
    simp only [hst] at hsofar
    obtain ⟨hlen, rfl, hint⟩ := hsofar
    exact ⟨vs, hs.setValue_goto _ _ _, hlen, true, [c], by simp,
      hint.digit hc (inInt16_spelled_singleton true hc) rfl rfl, by simp [MsgValue.bytes]⟩
  | nextDigit hst hc hrange =>
    simp only [hst] at hsofar
    obtain ⟨hlen, neg, ds, hds, hint, rfl⟩ := hsofar
    rw [hint.nextValue] at hrange
    refine ⟨vs, hs.setValue _ _, ?_⟩
    simp only [State.MessageSoFar, State.emit_pdState, State.setValue_pdState, hst]
    exact ⟨hlen, neg, ds ++ [c], by simp, hint.digit hc hrange rfl rfl, by simp [MsgValue.bytes]⟩
  | integerComma hst hc hk =>
    simp only [hst] at hsofar
    obtain ⟨hlen, neg, ds, hds, hint, rfl⟩ := hsofar
    exact ⟨_, hs.storeInteger hint hds hlen hk _, by
      simp [State.MessageSoFar, bytesBefore_concat, hc]⟩
  | integerBracket hst hc hk =>
    simp only [hst] at hsofar
    obtain ⟨hlen, neg, ds, hds, hint, rfl⟩ := hsofar
    exact ⟨_, hs.storeInteger hint hds hlen hk _, vs, _, rfl, by simp [hc]⟩
  | closeQuote hst hc =>
    simp only [hst] at hsofar
    obtain ⟨ws, cs, rfl, rfl⟩ := hsofar
    exact ⟨_, hs.goto _, ws, _, rfl, by simp [MsgValue.bytes, hc]⟩
  | char hst hc hlen =>
    simp only [hst] at hsofar
    obtain ⟨ws, cs, rfl, rfl⟩ := hsofar
    refine ⟨_, hs.char hc hlen, ?_⟩
    simp only [State.MessageSoFar, State.emit_pdState, hst]
    exact ⟨ws, cs ++ [c], rfl, by simp⟩
  | stringComma hst hc =>
    simp only [hst] at hsofar
    obtain ⟨ws, v, rfl, rfl⟩ := hsofar
    exact ⟨_, hs.goto _, by simp [State.MessageSoFar, bytesBefore_concat, hc]⟩
  | stringBracket hst hc =>
    simp only [hst] at hsofar
    obtain ⟨ws, v, rfl, rfl⟩ := hsofar
    exact ⟨_, hs.goto _, ws, v, rfl, by simp [hc]⟩

/-- A run within a message without an event reads its next bytes. -/
theorem messageSoFar_run {cs : List Byte} (hrun : QuietRun .pdStep s cs t) (hs : PdHolds s op vs)
    (hsofar : s.MessageSoFar op vs bs) :
    ∃ ws, PdHolds t op ws ∧ t.MessageSoFar op ws (bs ++ cs) := by
  induction hrun generalizing vs bs with
  | nil => exact ⟨vs, hs, by simpa using hsofar⟩
  | cons hstep hquiet _ ih =>
    obtain ⟨ws, hws, hsofar'⟩ := (step_pdStep_iff.mp hstep).messageSoFar hquiet hs hsofar
    obtain ⟨xs, hxs, hend⟩ := ih hws hsofar'
    exact ⟨xs, hxs, by simpa using hend⟩

/-- The call that completes a message reads its terminator. -/
theorem PdStepped.message_of_complete (h : PdStepped c s t)
    (hdone : t.response = .event .messageComplete) (hsofar : s.MessageSoFar op vs bs) :
    bs ++ [c] = message op vs := by
  unfold State.MessageSoFar at hsofar
  cases h
  case bare hst hc =>
    simp only [hst] at hsofar
    obtain ⟨rfl, rfl⟩ := hsofar
    rw [hc, message_nil]
  case terminator hst hc =>
    simp only [hst] at hsofar
    obtain ⟨ws, v, rfl, rfl⟩ := hsofar
    rw [hc, message_concat]
  all_goals cases hdone

end OnlyMessages

/-- Settles O60: the first byte must be an opcode, and from there PD holds the message it has read. -/
theorem onlyMessagesComplete : Obligations.OnlyMessagesComplete := by
  intro s u bytes n hst hfeed
  obtain ⟨bs, c, t, rfl, -, hrun, hlast, hdone⟩ := feed_firstEventLast_iff.mp hfeed
  rw [step_pdStep_iff] at hlast
  cases hrun with
  | nil => cases hlast <;> simp_all
  | @cons _ s₁ _ op ds hstep hquiet hrest =>
    have hstart : PdHolds s₁ op [] ∧ s₁.MessageSoFar op [] [op] := by
      rw [step_pdStep_iff] at hstep
      cases hstep
      case opcode hop => exact ⟨pdHolds_opcode s hop, rfl, rfl⟩
      all_goals simp_all
    obtain ⟨ws, hheld, hsofar⟩ := messageSoFar_run hrest hstart.1 hstart.2
    exact ⟨op, ws, hheld.isMessage, hlast.message_of_complete hdone hsofar⟩

end Sys2Proof.Machine
end
